-- ==== Sys2Proof/Word.lean ====
section
/-! DEFINITION. The words of the EC412 station: bytes, 16-bit pitch numbers and counts, 12-bit probe
readings, and station numbers. -/

namespace Sys2Proof

/-- One byte: an image byte, a torque or angle count, a service item (00_scope.md, "Units"). -/
abbrev Byte := BitVec 8

/-- A 16-bit count that wraps from 65535 to 0: C, H, N, pitch numbers, stamps (00_scope.md, "Pitch
arithmetic"); also a counter, which saturates instead (R180). -/
abbrev Word := BitVec 16

/-- A dome probe reading or a deflection, 0..4095 in steps of 1 micrometre (00_scope.md, "Units"). -/
abbrev Micron := BitVec 12

/-- A station number 1..8. The value `k` stands for the station numbered `k + 1`, so a larger value is
further downstream (00_scope.md, "Station numbers"). -/
abbrev Station := Fin 8

end Sys2Proof
end

