-- ==== Sys2Proof/Config.lean ====
section
/-! DEFINITION. What the part fixes for every station, and the free values: what the spec leaves open. -/

namespace Sys2Proof

/-- The autoload outcome of status item 0x00 (10_configuration_and_station_states.md, head table; R175). -/
inductive AutoloadOutcome where
  | notRun
  | loadOk
  | noMemory
  | shortImage
deriving DecidableEq, Repr, Inhabited

/-- Places of the transmit queue (R92). -/
def Config.txPlaces : Nat := 8

/-- Places of the gate queue (R154). -/
def Config.gatePlaces : Nat := 32

/-- Consecutive out-of-step frames that set a peer aside (R75). -/
def Config.skewLimit : Nat := 8

/-- The outcome that status shows while an autoload begun by RELOAD is still reading (log entry 1).
R165 keeps the old outcome "until the next autoload" and gives the new one at its end; it does not say
what is shown between. No body: nothing can be proved of its value. -/
opaque Config.outcomeDuringReload : AutoloadOutcome

end Sys2Proof
end

