-- ==== Sys2Proof/Syntax.lean ====
section
/-! DEFINITION. The commands of the station: one constructor of `Instr` for each row of
spec/opcode_table.json, in the table's order. A command is an event that one of the station's
connections brings to it; its operands are the levels and bytes that the event carries.

Two principles fix the operands (log entries 2 and 3). An input pin that has no row of its own (EYE,
TEMP, JAR_CAPPED, CAP_IN_CHUCK, PROBE_RIM, PROBE_PANEL) is carried by the command that samples it; an
input with a row of its own (HEAD_FAULT, JAM, CAP_LOW, RUN_EN) is a level in State that the row sets.
A row that names a service item is the whole write or read of that item, so it begins by putting the
item pointer there; ITEM_NUMBER_WRITE, SERVICE_WRITE and HIGH_BYTE_READ are the single bytes of a
transaction and act at the item pointer as it stands. -/

namespace Sys2Proof

/-- A sample of the two encoder phases, ENC_A and ENC_B (R1). -/
structure EncPair where
  a : Bool
  b : Bool
deriving DecidableEq, Repr

/-- The levels sampled at a pitch strobe: EYE and TEMP (R8), JAR_CAPPED (R109), CAP_IN_CHUCK (R110),
PROBE_RIM and PROBE_PANEL (R121). -/
structure StrobePins where
  eye : Bool
  temp : Byte
  jarCapped : Bool
  capInChuck : Bool
  rim : Micron
  panel : Micron
deriving DecidableEq, Repr

/-- The straps read at power-up and RESET: LOAD_DIS and SV_ADR (00_scope.md, "Connections"). -/
structure Straps where
  loadDis : Bool
  svAdr : BitVec 2
deriving DecidableEq, Repr

/-- The eight content bytes of a frame, bytes 0 to 7 of the table of R84 (the sync byte is checked by
the line watcher, R88). -/
structure FrameBytes where
  b0 : Byte
  b1 : Byte
  b2 : Byte
  b3 : Byte
  b4 : Byte
  b5 : Byte
  b6 : Byte
  b7 : Byte
deriving DecidableEq, Repr

/-- The head's two fault inputs; also the withdraw reason (R122, R172). -/
inductive FaultInput where
  | headFault
  | jam
deriving DecidableEq, Repr

/-- The three view data items 0xC1, 0xC5 and 0xC7 (R175, R177). -/
inductive ViewItem where
  | peer
  | track
  | gateQueue
deriving DecidableEq, Repr

/-- The commands. `sender` is the sender field of a frame, four bits as R84 lays it out. `elapsed` is
the number of recessive bit times since the last event of the line (R88, R94; log entry 4). `target` is
the 7-bit address of a service transaction (R175). -/
inductive Instr where
  /-- POWER_UP (R14): power comes up with these straps; `pair` is the first encoder sample taken. -/
  | powerUp (straps : Straps) (pair : EncPair)
  /-- RESET (R14): the RESET pin. -/
  | resetPin (straps : Straps) (pair : EncPair)
  /-- AUTOLOAD_BLOCK (R165): the memory's answer to the request for the next block. -/
  | autoloadBlock (ack : Bool) (data : Vector Byte 9)
  /-- ENCODER_STEP (R1): one sample pair; `pins` are the levels a strobe made by this step samples. -/
  | encoderStep (pair : EncPair) (pins : StrobePins)
  /-- PITCH_STROBE (R8). -/
  | pitchStrobe (pins : StrobePins)
  /-- LAPSE (R59): the promise of the jar of this pitch falls due. -/
  | lapse (jar : Word)
  /-- VALVE_CLOSE (R112). -/
  | valveClose
  /-- TORQUE_SAMPLE (R115). -/
  | torqueSample (tau : Byte)
  /-- ANGLE_STEP (R116). -/
  | angleStep
  /-- DRIVE_EXPIRY (R117). -/
  | driveExpiry
  /-- RETURN_END (R120). -/
  | returnEnd
  /-- DRAW_END (R131): the draw of the station of this number ends. -/
  | drawEnd (station : BitVec 4)
  /-- SEND_ATTEMPT (R95). -/
  | sendAttempt (elapsed : Nat)
  /-- SEND_COMPLETE (R95). -/
  | sendComplete
  /-- COLLISION (R96). -/
  | collision
  /-- FRAME_RECEIVED (R89): a frame with these content bytes is complete. -/
  | frameReceived (bytes : FrameBytes)
  /-- FRAME_ABANDONED (R88). -/
  | frameAbandoned (elapsed : Nat)
  /-- HELLO_TAKEN (R73); `jar` holds E in its high and E+W+Q in its low byte. -/
  | helloTaken (sender : BitVec 4) (jar : Word) (payA payB : Byte)
  /-- CLAIM_TAKEN (R53). -/
  | claimTaken (sender : BitVec 4) (jar : Word) (payA payB : Byte)
  /-- RELEASE_TAKEN (R56). -/
  | releaseTaken (sender : BitVec 4) (jar : Word)
  /-- DONE_TAKEN (R149). -/
  | doneTaken (sender : BitVec 4) (jar : Word) (payA payB : Byte)
  /-- STEAM_TAKEN (R127). -/
  | steamTaken (sender : BitVec 4) (jar : Word) (payA payB : Byte)
  /-- WITHDRAW_TAKEN (R80). -/
  | withdrawTaken (sender : BitVec 4) (payA : Byte)
  /-- START_ATTEMPT (R169): a rising RUN_EN; CAP_IN_CHUCK is sampled here (R125). -/
  | startAttempt (capInChuck : Bool)
  /-- RUN_STOP (R171): a falling RUN_EN. -/
  | runStop
  /-- HEAD_FAULT_JAM (R122): one of the two fault inputs is asserted (`level` set) or falls. -/
  | headFaultJam (input : FaultInput) (level : Bool)
  /-- CAP_LOW (R123): CAP_LOW is asserted or falls. -/
  | capLow (level : Bool)
  /-- ITEM_NUMBER_WRITE (R175). -/
  | itemNumberWrite (target : BitVec 7) (item : Byte)
  /-- SERVICE_WRITE (R178): one further data byte of the write transaction in progress. -/
  | serviceWrite (value : Byte)
  /-- TORQUE_POINTER_WRITE (R137): a write of item 0x38. -/
  | torquePointerWrite (target : BitVec 7) (value : Byte)
  /-- TORQUE_DATA_WRITE (R137): a write of item 0x39. -/
  | torqueDataWrite (target : BitVec 7) (value : Byte)
  /-- TORQUE_DATA_READ (R137): a read of item 0x39. -/
  | torqueDataRead (target : BitVec 7)
  /-- HIGH_BYTE_READ (R176): one read at the item pointer. -/
  | highByteRead (target : BitVec 7)
  /-- CLEAR (R179): command byte 1. -/
  | clear (target : BitVec 7)
  /-- RELOAD (R179): command byte 2. -/
  | reload (target : BitVec 7)
  /-- PEER_VIEW_SELECT (R177): a write of item 0xC0. -/
  | peerViewSelect (target : BitVec 7) (value : Byte)
  /-- SNAPSHOT_REQUEST (R40): a write of item 0xC4. -/
  | snapshotRequest (target : BitVec 7) (value : Byte)
  /-- GATE_QUEUE_VIEW_REQUEST (R177): a write of item 0xC6. -/
  | gateQueueViewRequest (target : BitVec 7) (value : Byte)
  /-- VIEW_DATA_READ (R177): a read of item 0xC1, 0xC5 or 0xC7. -/
  | viewDataRead (target : BitVec 7) (view : ViewItem)
  /-- MALFORMED_FRAME (R88). -/
  | malformedFrame
  /-- FRAME_START (R88). -/
  | frameStart (elapsed : Nat)
deriving DecidableEq, Repr

end Sys2Proof
end

