-- ==== Sys2Proof/WellFormed.lean ====
section
/-! DEFINITION. Well-formed commands. The operand types carry every range but one: the sender of a frame,
and the station of a draw, are four bits on the line and name a station only at 1 to 8 (R89). -/

namespace Sys2Proof

/-- A four-bit station field that names a station, 1 to 8 (R89; 00_scope.md, "Station numbers"). -/
def stationCodeOk (c : BitVec 4) : Bool := decide (1 ≤ c.toNat) && decide (c.toNat ≤ 8)

/-- The check of one command. `exec` is total on the ill-formed ones too: a frame that bears no station
number is a bad frame (R89), and no draw bears one (R126). -/
def Instr.wf : Instr → Bool
  | .drawEnd station => stationCodeOk station
  | .helloTaken sender _ _ _ => stationCodeOk sender
  | .claimTaken sender _ _ _ => stationCodeOk sender
  | .releaseTaken sender _ => stationCodeOk sender
  | .doneTaken sender _ _ _ => stationCodeOk sender
  | .steamTaken sender _ _ _ => stationCodeOk sender
  | .withdrawTaken sender _ => stationCodeOk sender
  | .powerUp _ _ => true
  | .resetPin _ _ => true
  | .autoloadBlock _ _ => true
  | .encoderStep _ _ => true
  | .pitchStrobe _ => true
  | .lapse _ => true
  | .valveClose => true
  | .torqueSample _ => true
  | .angleStep => true
  | .driveExpiry => true
  | .returnEnd => true
  | .sendAttempt _ => true
  | .sendComplete => true
  | .collision => true
  | .frameReceived _ => true
  | .frameAbandoned _ => true
  | .startAttempt _ => true
  | .runStop => true
  | .headFaultJam _ _ => true
  | .capLow _ => true
  | .itemNumberWrite _ _ => true
  | .serviceWrite _ => true
  | .torquePointerWrite _ _ => true
  | .torqueDataWrite _ _ => true
  | .torqueDataRead _ => true
  | .highByteRead _ => true
  | .clear _ => true
  | .reload _ => true
  | .peerViewSelect _ _ => true
  | .snapshotRequest _ _ => true
  | .gateQueueViewRequest _ _ => true
  | .viewDataRead _ _ => true
  | .malformedFrame => true
  | .frameStart _ => true

end Sys2Proof
end

