-- ==== Sys2Proof/Decode.lean ====
section
/-! DEFINITION. The commands that a word of bits spells. The EC412 takes events, not instruction words:
no row of spec/opcode_table.json gives any bits (98_reader.md counts 0 rows with fixed bits and 0 with
fields), so no word spells a command. The byte layout of a bank-line frame, which is data of
FRAME_RECEIVED, is in Sys2Proof/Machine/Operands.lean. -/

namespace Sys2Proof

/-- No row of the table gives bits, so every word is refused. -/
def decodeTableWord (_nbits _w : Nat) : Option Instr := none

end Sys2Proof
end

