-- ==== Sys2Proof/Machine/State.lean ====
section
/-! DEFINITION. The state of one EC412 station, block by block as 00_scope.md lists the blocks, the
reasons a step may stop, and the state right after reset. Plain data throughout. -/

namespace Sys2Proof.Machine

/-! ### Station control (chapter 10) -/

/-- The station states of section 10.3, with the codes of item 0x00 in this order. -/
inductive Mode where
  | loading
  | standby
  | run
  | withdrawn
  | fault
deriving DecidableEq, Repr

/-- The run-stop causes (chapter 10, head table). -/
inductive StopCause where
  | noStop
  | runEn
  | reverse
deriving DecidableEq, Repr

/-- The fault causes (R169, R173). -/
inductive FaultCause where
  | duplicateId
  | headAtStart
deriving DecidableEq, Repr

/-- Image bytes 0 to 32, the settings (R164). The profile bytes 33 to 80 do not stand in the image:
they are the torque profile table. -/
abbrev Image := Vector Byte 33

/-- Station control (chapter 10). `taken` holds the settings as the last START took them: every block
uses those, and frames left from a run go on using them in STANDBY and LOADING (R97, R102). -/
structure Control where
  mode : Mode
  image : Image
  taken : Image
  outcome : AutoloadOutcome
  /-- START_REFUSED: the number of the failing check, 0 when clear (R169, item 0x01). -/
  startRefused : Nat
  stopCause : StopCause
  withdrawReason : Option FaultInput
  faultCause : Option FaultCause
  /-- The block that autoload reads next, 0 to 8 (R165). -/
  loadBlock : Nat
  /-- Set from power-up or RESET until block 0 is answered: the service port is silent (R175). -/
  portSilent : Bool
deriving DecidableEq, Repr

/-! ### Pitch clock (chapter 1) -/

/-- The pitch clock: phase state, encoder count, high-water count, pitch number. -/
structure Clock where
  phase : EncPair
  c : Word
  h : Word
  n : Word
deriving DecidableEq, Repr

/-! ### Jar track (chapter 2) -/

/-- The verdicts of R146, in the order of their codes 0 to 8. -/
inductive Verdict where
  | good
  | lowVac
  | domed
  | under
  | overTorque
  | crossed
  | spin
  | unchecked
  | uncapped
deriving DecidableEq, Repr

/-- PASS or REJECT: a disposition (R146), and the level of GATE (R154). -/
inductive Disposition where
  | pass
  | reject
deriving DecidableEq, Repr

/-- The verdict source: a station, or GATE (R18). -/
inductive Source where
  | station (k : Station)
  | gate
deriving DecidableEq, Repr

/-- The flush kinds (R18). -/
inductive FlushKind where
  | noFlush
  | full
  | short
deriving DecidableEq, Repr

/-- The probe's part of the measurements: r, q, and d when a deflection was formed (R144). -/
structure ProbeReading where
  rim : Micron
  panel : Micron
  deflection : Option Micron
deriving DecidableEq, Repr

/-- The measurements of a jar in this station's own cycle: the peak torque, the drive angle, and the
probe's part once it is read (R18, R19). -/
structure Measurements where
  peak : Byte
  theta : Byte
  probe : Option ProbeReading
deriving DecidableEq, Repr

/-- The six record states, each with the fields that R19 gives it. The claimant of a CLAIMED record is
this station, so it is no field. `ahead` is the model's own: whether the promise distance lay above the
record's distance when the CLAIM was taken, since otherwise the promise never falls due (R58; log
entry 8). -/
inductive JarState where
  | openJar
  | heldPeer (claimant : Station) (promise : Word) (ahead : Bool)
  | claimed
  | inChuck (m : Measurements)
  | probeWait (m : Measurements)
  | done (v : Verdict) (src : Source) (disp : Disposition) (m : Option Measurements)
deriving DecidableEq, Repr

/-- A jar record (R18). `band` is absent exactly when the record is unprofiled. -/
structure Jar where
  pitch : Word
  temp : Byte
  band : Option (Fin 16)
  st : JarState
  reopened : Bool
  conflict : Bool
  nearFlag : Bool
  overFlag : Bool
  flush : FlushKind
deriving DecidableEq, Repr

/-! ### Claim logic (chapter 3) -/

/-- The claim logic's two counts (R42, R43). -/
structure ClaimCounts where
  openClaims : Nat
  busy : Nat
deriving DecidableEq, Repr

/-! ### Peer table (chapter 4) -/

/-- Why a peer is MISMATCHED (R68). -/
inductive MismatchReason where
  | pitchDef
  | steamLimit
  | order
  | skew
deriving DecidableEq, Repr

/-- The peer states. The mismatch reason is present exactly in MISMATCHED, and the refresh set, bit
k - 1 for station number k as the peer view has it, is empty outside PARKED (R68). -/
inductive PeerState where
  | absent
  | live
  | parked (refresh : BitVec 8)
  | mismatched (why : MismatchReason)
  | withdrawn
deriving DecidableEq, Repr

/-- The HELLO facts, kept as the frame carried them (R68). -/
structure HelloFacts where
  entry : Byte
  exit : Byte
  pitchBit : BitVec 4
  edge : BitVec 2
  steam : BitVec 4
  gate : Bool
deriving DecidableEq, Repr

/-- A peer record (R68). -/
structure Peer where
  st : PeerState
  facts : Option HelloFacts
  lapses : Nat
  skew : Nat
  lastHeard : Option Word
deriving DecidableEq, Repr

/-- The peer table and its two status flags (R68, R74). -/
structure PeerTable where
  recs : Vector Peer 8
  gateConflict : Bool
  gateShort : Bool
deriving DecidableEq, Repr

/-! ### Bank-line unit (chapter 5) -/

/-- The frame kinds of R87. -/
inductive Kind where
  | hello
  | claim
  | release
  | done
  | steam
  | withdraw
deriving DecidableEq, Repr

/-- A queued frame: its kind and the fields its block gave it (R92). -/
structure TxFrame where
  kind : Kind
  jar : Word
  payA : Byte
  payB : Byte
deriving DecidableEq, Repr

/-- The frame on the line. `bytes` are the loaded content bytes with stamp and CRC (R95). `detached`:
START emptied the queue under it, so it is no longer the head (R102). `doomed`: its block asked for its
removal, or a run-stop pruned its kind, while it was being sent (R96). -/
structure Sending where
  frame : TxFrame
  bytes : FrameBytes
  detached : Bool
  doomed : Bool
deriving DecidableEq, Repr

/-- The line watcher: waiting for 12 bit times of quiet, ready for a frame start, assembling a frame, or
stopped in FAULT (R88, R102). -/
inductive Watcher where
  | waiting
  | ready
  | assembling
  | stopped
deriving DecidableEq, Repr

/-- The bank-line unit: transmit queue with the head first, frame on the line, retry count of the head,
line watcher, and quiet time in bit times (R88, R92, R94, R97). -/
structure BankLine where
  queue : List TxFrame
  sending : Option Sending
  retries : Nat
  watcher : Watcher
  quiet : Nat
deriving DecidableEq, Repr

/-! ### Capping cycle (chapter 6) -/

/-- The chuck states of section 6.2. -/
inductive Chuck where
  | ready
  | engage
  | flush
  | seat
  | drive
  | hold
  | lift
  | returning
deriving DecidableEq, Repr

/-- The drive phase (section 6.2). -/
inductive DrivePhase where
  | idle
  | running
  | ended
deriving DecidableEq, Repr

/-- A torque profile entry: target, least angle, greatest angle (section 8.2). -/
structure ProfileEntry where
  target : Byte
  amin : Byte
  amax : Byte
deriving DecidableEq, Repr

/-- The stage plan: the lengths of ENGAGE, FLUSH, DRIVE and HOLD, the planned cycle length L, and the
effective pick retries (R104). All 0 before the first START (items 0x3A to 0x3F). -/
structure Plan where
  engage : Nat
  flush : Nat
  drive : Nat
  hold : Nat
  total : Nat
  retries : Nat
deriving DecidableEq, Repr

/-- The capping cycle's own state (section 6.2). `capFound` is set once the cap checks of this ENGAGE
have found a cap: CHUCK_DN follows it (R107, R110). -/
structure Head where
  chuck : Chuck
  cyclePitch : Option Word
  capFound : Bool
  retriesLeft : Nat
  phase : DrivePhase
  seatReached : Bool
  entry : ProfileEntry
  valveLeft : Nat
  returnLeft : Nat
  plan : Plan
deriving DecidableEq, Repr

/-! ### Steam share (chapter 7) -/

/-- An entry of the draw list (R126). -/
structure Draw where
  station : Station
  start : Word
  length : Byte
deriving DecidableEq, Repr

/-- The steam share: draw list, full run, short-heard mark (chapter 7, head table). -/
structure SteamShare where
  draws : List Draw
  fullRun : Nat
  shortHeard : Bool
deriving DecidableEq, Repr

/-! ### Verdict unit (chapter 8) -/

/-- The verdict unit's own state: the profile table, the torque pointer, and the staged parts (R137). -/
structure VerdictUnit where
  profile : Vector ProfileEntry 16
  band : Fin 16
  part : Fin 3
  stagedTarget : Option Byte
  stagedAmin : Option Byte
deriving DecidableEq, Repr

/-! ### Reject gate (chapter 9) -/

/-- A gate queue entry (R154). -/
structure GateEntry where
  pitch : Word
  verdict : Verdict
deriving DecidableEq, Repr

/-- The reject gate: queue with the entry nearest the gate first, FLOOD latch, and the level of GATE
for the current pitch (R154). -/
structure Gate where
  queue : List GateEntry
  flood : Bool
  output : Disposition
deriving DecidableEq, Repr

/-! ### Service port (chapter 11) -/

/-- A view copy as the bytes it holds, and its read index (R177). -/
structure View where
  bytes : List Byte
  index : Nat
deriving DecidableEq, Repr

/-- The service port (section 11.1): item pointer; latched low byte with the item it belongs to; view
copies; ACCESS_REFUSED; whether a write transaction addressed to this port is open; and what SV_SDA
last carried back, the byte returned by a read and whether the last byte written was acknowledged. -/
structure Port where
  pointer : Byte
  latch : Option (Byte × Byte)
  peerView : View
  trackView : View
  gateView : View
  accessRefused : Bool
  writing : Bool
  dataOut : Byte
  acked : Bool
deriving DecidableEq, Repr

/-! ### The station -/

/-- Input levels that have a row of their own, and the straps (00_scope.md, "Connections"). -/
structure Pins where
  runEn : Bool
  headFault : Bool
  jam : Bool
  capLow : Bool
  straps : Straps
deriving DecidableEq, Repr

/-- The whole station. `counters` holds counter i of R180 at index i. `pending` is the model's queue of
commands, first in, first out; it is no part of the station. -/
structure State where
  ctl : Control
  pins : Pins
  clk : Clock
  track : List Jar
  claims : ClaimCounts
  peers : PeerTable
  line : BankLine
  head : Head
  steam : SteamShare
  verdicts : VerdictUnit
  gate : Gate
  port : Port
  counters : Vector Word 30
  pending : List Instr
deriving DecidableEq, Repr

/-- The reasons a step stops with a fault: none. The spec names no event at which the part stops: its
FAULT is a station state (R173), and every command has an effect or is ignored. Safe: no behaviour is
cut off. -/
inductive Fault where
deriving DecidableEq, Repr

/-- The reasons a step is refused. -/
inductive Refusal where
  /-- Raised only by an arm of `exec` that has no meaning yet. No arm raises it now. Safe. -/
  | notModelled (mnemonic : String)
deriving DecidableEq, Repr

/-! ### Reset values -/

/-- A disabled profile entry: every part 0 (R139). -/
def ProfileEntry.zero : ProfileEntry := ⟨0, 0, 0⟩

/-- A peer of which nothing has been taken (R82). -/
def Peer.unheard : Peer := ⟨.absent, none, 0, 0, none⟩

/-- The peer table after power-up, RESET and START (R82). -/
def PeerTable.clear : PeerTable := ⟨Vector.replicate 8 Peer.unheard, false, false⟩

/-- No plan: before the first START (R125, item 0x3A). -/
def Plan.unformed : Plan := ⟨0, 0, 0, 0, 0, 0⟩

/-- The head standing READY with no cycle, under a given plan (R125). -/
def Head.idle (plan : Plan) : Head := ⟨.ready, none, false, 0, .idle, false, ProfileEntry.zero, 0, 0, plan⟩

/-- An emptied view (R177). -/
def View.empty : View := ⟨[], 0⟩

/-- The image with every byte 0 (R164). -/
def Image.zero : Image := Vector.replicate 33 0

/-- The verdict unit at the start of every autoload: profile zero, pointer at band 0 part 0, nothing
staged (R139). -/
def VerdictUnit.zero : VerdictUnit := ⟨Vector.replicate 16 ProfileEntry.zero, 0, 0, none, none⟩

/-- The power-up values of every block, for given pin levels and first encoder sample. The station
stands in STANDBY when LOAD_DIS is set and otherwise begins autoload in LOADING (R14, R39, R67, R82,
R102, R125, R134, R139, R153, R162, R165, R175, R177, R180). -/
def State.powerUpValues (pins : Pins) (pair : EncPair) (pending : List Instr) : State :=
  { ctl :=
      { mode := if pins.straps.loadDis then .standby else .loading
        image := Image.zero
        taken := Image.zero
        outcome := .notRun
        startRefused := 0
        stopCause := .noStop
        withdrawReason := none
        faultCause := none
        loadBlock := 0
        portSilent := !pins.straps.loadDis }
    pins := pins
    clk := ⟨pair, 0, 0, 0⟩
    track := []
    claims := ⟨0, 0⟩
    peers := PeerTable.clear
    line := ⟨[], none, 0, .waiting, 0⟩
    head := Head.idle Plan.unformed
    steam := ⟨[], 0, false⟩
    verdicts := VerdictUnit.zero
    gate := ⟨[], false, .pass⟩
    port := ⟨0, none, View.empty, View.empty, View.empty, false, false, 0, false⟩
    counters := Vector.replicate 30 0
    pending := pending }

/-- The pin levels the model gives `State.reset`: every input low, both straps 0, so that autoload
begins (log entry 5: the spec gives an input pin no reset value). -/
def Pins.atReset : Pins := ⟨false, false, false, false, ⟨false, 0⟩⟩

/-- The station right after reset: the power-up values, with the pins of `Pins.atReset` and both
encoder phases low (log entry 5), and no command waiting. -/
def State.reset : State := State.powerUpValues Pins.atReset ⟨false, false⟩ []

end Sys2Proof.Machine
end

