-- ==== Sys2Proof/Machine/Bits.lean ====
section
/-! DEFINITION. Byte order, bit fields, station numbers, codes, and saturating counts. -/

namespace Sys2Proof.Machine

/-- The high byte of a 16-bit value: every two-byte field is sent high byte first (R84, R175). -/
def hiByte (w : Word) : Byte := w.extractLsb' 8 8

/-- The low byte of a 16-bit value. -/
def loByte (w : Word) : Byte := w.extractLsb' 0 8

/-- The 16-bit value of a high and a low byte. -/
def wordOf (hi lo : Byte) : Word := hi ++ lo

/-- A flag as the bit of weight `2 ^ i` of a byte. -/
def flagBit (i : Nat) (b : Bool) : Byte := if b then BitVec.twoPow 8 i else 0

/-- A number as a byte, mod 256. -/
def byteOf (n : Nat) : Byte := BitVec.ofNat 8 n

/-- The number 1 to 8 of a station. -/
def stationNum (k : Station) : Nat := k.val + 1

/-- The station of a number, when it is 1 to 8 (00_scope.md, "Station numbers"). -/
def stationOf? (n : Nat) : Option Station :=
  if h : 1 ≤ n ∧ n ≤ 8 then some ⟨n - 1, by omega⟩ else none

/-- Distance and age: (N - p) mod 65536 as a whole number (R11, R126). -/
def distance (n p : Word) : Nat := (n - p).toNat

/-- A counter raised by `k`, holding at 65535 (R180). -/
def satAdd (c : Word) (k : Nat) : Word := BitVec.ofNat 16 (min 65535 (c.toNat + k))

/-- A count raised by one, holding at `top`. -/
def countTo (top n : Nat) : Nat := min top (n + 1)

/-- The code of a station state in item 0x00 (R175). -/
def Mode.code : Mode → Nat
  | .loading => 0
  | .standby => 1
  | .run => 2
  | .withdrawn => 3
  | .fault => 4

/-- RUN and WITHDRAWN: the states that take strobes and frames (R2, R8, R70). -/
def Mode.inRun : Mode → Bool
  | .run => true
  | .withdrawn => true
  | .loading => false
  | .standby => false
  | .fault => false

/-- The code of an autoload outcome in item 0x00 (R175). -/
def outcomeCode : AutoloadOutcome → Nat
  | .notRun => 0
  | .loadOk => 1
  | .noMemory => 2
  | .shortImage => 3

/-- The code of a run-stop cause in item 0x00 (R175). -/
def StopCause.code : StopCause → Nat
  | .noStop => 0
  | .runEn => 1
  | .reverse => 2

/-- The code of a withdraw reason, in item 0x02 (R175) and in a WITHDRAW frame (R87). -/
def withdrawCode : FaultInput → Nat
  | .headFault => 1
  | .jam => 2

/-- The code of a fault cause in item 0x03 (R175). -/
def FaultCause.code : FaultCause → Nat
  | .duplicateId => 1
  | .headAtStart => 2

/-- The code of a verdict (R146). -/
def Verdict.code : Verdict → Nat
  | .good => 0
  | .lowVac => 1
  | .domed => 2
  | .under => 3
  | .overTorque => 4
  | .crossed => 5
  | .spin => 6
  | .unchecked => 7
  | .uncapped => 8

/-- The verdict that a DONE frame's code 0 to 7 names; a DONE with any other code is ignored (R149). -/
def verdictOfDone? (code : Nat) : Option Verdict :=
  match code with
  | 0 => some .good
  | 1 => some .lowVac
  | 2 => some .domed
  | 3 => some .under
  | 4 => some .overTorque
  | 5 => some .crossed
  | 6 => some .spin
  | 7 => some .unchecked
  | _ => none

/-- The code of a frame kind (R87). -/
def Kind.code : Kind → Nat
  | .hello => 1
  | .claim => 2
  | .release => 3
  | .done => 4
  | .steam => 5
  | .withdraw => 6

/-- The kind that a code names; 0 and 7 to 15 name none (R87). -/
def kindOf? (code : Nat) : Option Kind :=
  match code with
  | 1 => some .hello
  | 2 => some .claim
  | 3 => some .release
  | 4 => some .done
  | 5 => some .steam
  | 6 => some .withdraw
  | _ => none

/-- The state byte of the peer view, without the own-number bit (R177). -/
def PeerState.code : PeerState → Nat
  | .absent => 0
  | .live => 1
  | .parked _ => 2
  | .mismatched _ => 3
  | .withdrawn => 4

/-- The mismatch reason byte of the peer view (R177). -/
def MismatchReason.code : MismatchReason → Nat
  | .pitchDef => 1
  | .steamLimit => 2
  | .order => 3
  | .skew => 4

/-- The state byte of a track record in the snapshot (R177). -/
def JarState.code : JarState → Nat
  | .openJar => 0
  | .heldPeer _ _ _ => 1
  | .claimed => 2
  | .inChuck _ => 3
  | .probeWait _ => 4
  | .done _ _ _ _ => 5

/-- The flush kind field of the snapshot's flags byte (R177). -/
def FlushKind.code : FlushKind → Nat
  | .noFlush => 0
  | .full => 1
  | .short => 2

/-- The disposition byte of the snapshot, and bit 4 of a DONE's payload A (R148, R177). -/
def Disposition.code : Disposition → Nat
  | .pass => 0
  | .reject => 1

/-- The source byte of the snapshot (R177). -/
def Source.code : Source → Nat
  | .station k => stationNum k
  | .gate => 9

end Sys2Proof.Machine
end

