-- ==== Sys2Proof/Machine/Settings.lean ====
section
/-! DEFINITION. The settings of the image (R164), the START check (R168), the strobe condition (R5), the
retire distance (R31) and the stage plan (R104). -/

namespace Sys2Proof.Machine

/-! ### The fields of the image (R164) -/

/-- Byte 0: station number. -/
def Image.number (i : Image) : Nat := i[0].toNat
/-- Byte 1 bit 0: gate role. -/
def Image.gateRole (i : Image) : Bool := i[1].getLsbD 0
/-- Byte 1 bit 1: refresh enable. -/
def Image.refresh (i : Image) : Bool := i[1].getLsbD 1
/-- Byte 1 bit 2: OVER_PASS. -/
def Image.overPass (i : Image) : Bool := i[1].getLsbD 2
/-- Byte 1 bit 3: NEAR_REJECT. -/
def Image.nearReject (i : Image) : Bool := i[1].getLsbD 3
/-- Byte 1 bit 4: UNCHECKED_PASS. -/
def Image.uncheckedPass (i : Image) : Bool := i[1].getLsbD 4
/-- Byte 2 bits 3 to 0: the pitch bit k. -/
def Image.pitchBit (i : Image) : BitVec 4 := i[2].extractLsb' 0 4
/-- Byte 2 bits 5 and 4: the edge code, 0 RISE, 1 FALL, 2 BOTH. -/
def Image.edge (i : Image) : BitVec 2 := i[2].extractLsb' 4 2
/-- Byte 3: reverse allowance. -/
def Image.allowance (i : Image) : Nat := i[3].toNat
/-- Byte 4: entry offset E. -/
def Image.entryOffset (i : Image) : Nat := i[4].toNat
/-- Byte 5: window W. -/
def Image.window (i : Image) : Nat := i[5].toNat
/-- Byte 6: probe offset Q. -/
def Image.probeOffset (i : Image) : Nat := i[6].toNat
/-- Byte 7: claim lead A. -/
def Image.claimLead (i : Image) : Nat := i[7].toNat
/-- Byte 8: commitment limit Cm. -/
def Image.commitLimit (i : Image) : Nat := i[8].toNat
/-- Byte 9: return Rt. -/
def Image.returnPitches (i : Image) : Nat := i[9].toNat
/-- Byte 10: FLUSH base f. -/
def Image.flushBase (i : Image) : Nat := i[10].toNat
/-- Byte 11: DRIVE base dr. -/
def Image.driveBase (i : Image) : Nat := i[11].toNat
/-- Byte 12: HOLD base h. -/
def Image.holdBase (i : Image) : Nat := i[12].toNat
/-- Byte 13 bits 1 and 0: extra dwell xe. -/
def Image.extraEngage (i : Image) : Nat := (i[13].extractLsb' 0 2).toNat
/-- Byte 13 bits 3 and 2: extra dwell xf. -/
def Image.extraFlush (i : Image) : Nat := (i[13].extractLsb' 2 2).toNat
/-- Byte 13 bits 5 and 4: extra dwell xd. -/
def Image.extraDrive (i : Image) : Nat := (i[13].extractLsb' 4 2).toNat
/-- Byte 13 bits 7 and 6: extra dwell xh. -/
def Image.extraHold (i : Image) : Nat := (i[13].extractLsb' 6 2).toNat
/-- Byte 14: pick retries. -/
def Image.pickRetries (i : Image) : Nat := i[14].toNat
/-- Byte 15: share pattern. -/
def Image.share (i : Image) : Byte := i[15]
/-- Byte 16: phase. -/
def Image.sharePhase (i : Image) : Nat := i[16].toNat
/-- Byte 17: steam limit S. -/
def Image.steamLimit (i : Image) : Nat := i[17].toNat
/-- Byte 18: steam fairness F. -/
def Image.fairness (i : Image) : Nat := i[18].toNat
/-- Byte 19: park limit. -/
def Image.parkLimit (i : Image) : Nat := i[19].toNat
/-- Byte 20: retry limit code. -/
def Image.retryCode (i : Image) : Nat := i[20].toNat
/-- Byte 21: bank exit X. -/
def Image.bankExit (i : Image) : Nat := i[21].toNat
/-- Byte 22: gate offset G. -/
def Image.gateOffset (i : Image) : Nat := i[22].toNat
/-- Byte 23: temperature base Tb. -/
def Image.tempBase (i : Image) : Nat := i[23].toNat
/-- Byte 24: band width Bw. -/
def Image.bandWidth (i : Image) : Nat := i[24].toNat
/-- Byte 25: seat threshold. -/
def Image.seatThreshold (i : Image) : Nat := i[25].toNat
/-- Byte 26: tol_u. -/
def Image.tolUnder (i : Image) : Nat := i[26].toNat
/-- Byte 27: tol_o. -/
def Image.tolOver (i : Image) : Nat := i[27].toNat
/-- Bytes 28 and 29: d_full, high byte first. -/
def Image.deflectFull (i : Image) : Nat := (wordOf i[28] i[29]).toNat
/-- Bytes 30 and 31: d_short, high byte first. -/
def Image.deflectShort (i : Image) : Nat := (wordOf i[30] i[31]).toNat
/-- Byte 32: dome margin m. -/
def Image.domeMargin (i : Image) : Nat := i[32].toNat

/-- The station that byte 0 names; the START check admits only 1 to 8 (check 1). Outside that range no
run can begin, and the value is not used: `Image.isOwn` is then false of every station. -/
def Image.own (i : Image) : Station := Fin.ofNat 8 (i.number - 1)

/-- Whether `k` is the station's own number (R68, R71). -/
def Image.isOwn (i : Image) (k : Station) : Bool := decide (i.number = stationNum k)

/-- The station's own exit distance E + W + Q, where its probe falls (R68, R121). -/
def Image.probeDistance (i : Image) : Nat := i.entryOffset + i.window + i.probeOffset

/-- The promise distance E + W + Q + 1 (R41, R51). -/
def Image.promiseDistance (i : Image) : Nat := i.probeDistance + 1

/-- The retire distance Rd: X + 1 with gate role and E + W + Q + 1 without (R31). -/
def Image.retireDistance (i : Image) : Nat := if i.gateRole then i.bankExit + 1 else i.probeDistance + 1

/-- The retry limit that the code stands for; code 3 is unlimited (R97). -/
def Image.retryLimit? (i : Image) : Option Nat :=
  match i.retryCode with
  | 0 => some 4
  | 1 => some 16
  | 2 => some 64
  | _ => none

/-- The gap of this station, 16 + 4 s bit times (R94). -/
def Image.gap (i : Image) : Nat := 16 + 4 * i.number

/-! ### The START check (R168) -/

/-- Checks 1 to 31 in order; 29 to 31 are made with gate role only. -/
def startChecks (i : Image) : List Bool :=
  [ decide (1 ≤ i.number ∧ i.number ≤ 8),
    decide (3 ≤ i.pitchBit.toNat ∧ i.pitchBit.toNat ≤ 12),
    decide (i.edge.toNat ≤ 2),
    decide (1 ≤ i.entryOffset ∧ i.entryOffset ≤ 40),
    decide (5 ≤ i.window ∧ i.window ≤ 16),
    decide (i.probeOffset ≤ 6),
    decide (1 ≤ i.claimLead ∧ i.claimLead ≤ 8),
    decide (i.claimLead < i.entryOffset),
    decide (i.probeDistance ≤ 62),
    decide (1 ≤ i.commitLimit ∧ i.commitLimit ≤ 4),
    decide (i.returnPitches ≤ 8),
    decide (1 ≤ i.flushBase ∧ i.flushBase ≤ 4),
    decide (1 ≤ i.driveBase ∧ i.driveBase ≤ 4),
    decide (i.holdBase ≤ 3),
    decide (3 + i.flushBase + i.driveBase + i.holdBase ≤ i.window),
    decide (i.pickRetries ≤ 3),
    decide (i.sharePhase ≤ 7),
    decide (1 ≤ i.steamLimit ∧ i.steamLimit ≤ 8),
    decide (i.fairness ≤ 15),
    decide (1 ≤ i.parkLimit ∧ i.parkLimit ≤ 7),
    decide (i.retryCode ≤ 3),
    decide (i.tempBase ≤ 254),
    decide (1 ≤ i.bandWidth ∧ i.bandWidth ≤ 32),
    decide (1 ≤ i.seatThreshold),
    decide (i.tolUnder ≤ 63),
    decide (i.tolOver ≤ 63),
    decide (i.deflectFull ≤ 4095),
    decide (i.deflectShort ≤ 4095),
    !i.gateRole || decide (1 ≤ i.bankExit ∧ i.bankExit ≤ 62),
    !i.gateRole || decide (i.probeDistance ≤ i.bankExit),
    !i.gateRole || decide (i.bankExit < i.gateOffset ∧ i.gateOffset ≤ 250) ]

/-- The place, counted from 1, of the first false entry of a list; 0 when there is none. -/
def firstFailing : List Bool → Nat
  | [] => 0
  | true :: rest => match firstFailing rest with
    | 0 => 0
    | n => n + 1
  | false :: _ => 1

/-- The number of the first failing check, 0 when the image passes (R168). -/
def startCheck (i : Image) : Nat := firstFailing (startChecks i)

/-! ### The strobe condition (R5) -/

/-- Whether the new high-water count `h` is a strobe under the pitch edge and pitch bit (R5). -/
def strobeAt (i : Image) (h : Word) : Bool :=
  let k := i.pitchBit.toNat
  match i.edge.toNat with
  | 0 => decide (h.toNat % 2 ^ (k + 1) = 2 ^ k)
  | 1 => decide (h.toNat % 2 ^ (k + 1) = 0)
  | 2 => decide (h.toNat % 2 ^ k = 0)
  | _ => false

/-! ### The stage plan (R104, R105) -/

/-- The stage plan of an image: the planned total is trimmed to W in HOLD, then DRIVE, then FLUSH, then
ENGAGE extras, each down to 0; the base lengths are kept (R104). -/
def planOf (i : Image) : Plan :=
  let base := 3 + i.flushBase + i.driveBase + i.holdBase
  let excess := base + i.extraEngage + i.extraFlush + i.extraDrive + i.extraHold - i.window
  let xh := i.extraHold - excess
  let overD := excess - i.extraHold
  let xd := i.extraDrive - overD
  let overF := overD - i.extraDrive
  let xf := i.extraFlush - overF
  let overE := overF - i.extraFlush
  let xe := i.extraEngage - overE
  { engage := 1 + xe
    flush := i.flushBase + xf
    drive := i.driveBase + xd
    hold := i.holdBase + xh
    total := base + xe + xf + xd + xh
    retries := min i.pickRetries xe }

/-- The distance at which FLUSH begins (R105). -/
def flushBegin (i : Image) (p : Plan) : Nat := i.entryOffset + p.engage
/-- The distance at which SEAT begins (R105). -/
def seatBegin (i : Image) (p : Plan) : Nat := flushBegin i p + p.flush
/-- The distance at which DRIVE begins (R105). -/
def driveBegin (i : Image) (p : Plan) : Nat := seatBegin i p + 1
/-- The distance at which DRIVE ends and HOLD begins (R105). -/
def holdBegin (i : Image) (p : Plan) : Nat := driveBegin i p + p.drive
/-- The distance at which LIFT begins, E + L - 1 (R105). -/
def liftBegin (i : Image) (p : Plan) : Nat := i.entryOffset + p.total - 1
/-- The distance at which the cycle ends, E + L (R105). -/
def cycleEnd (i : Image) (p : Plan) : Nat := i.entryOffset + p.total

/-! ### Band rule and disposition (R135, R146) -/

/-- The band of a temperature: none at a rail, 0 at or below the base, and otherwise the smaller of 15
and (T - Tb) div Bw (R135). -/
def bandOf (i : Image) (t : Byte) : Option (Fin 16) :=
  if t = 0 ∨ t = 255 then none
  else some (Fin.ofNat 16 (min 15 ((t.toNat - i.tempBase) / i.bandWidth)))

/-- The disposition of a verdict under the near flag and the settings (R146). -/
def dispositionOf (i : Image) (v : Verdict) (nearFlag : Bool) : Disposition :=
  match v with
  | .good => if nearFlag && i.nearReject then .reject else .pass
  | .unchecked => if i.uncheckedPass then .pass else .reject
  | .lowVac => .reject
  | .domed => .reject
  | .under => .reject
  | .overTorque => .reject
  | .crossed => .reject
  | .spin => .reject
  | .uncapped => .reject

end Sys2Proof.Machine
end

