-- ==== Sys2Proof/Machine/Operands.lean ====
section
/-! DEFINITION. The bank-line frame: its content bytes, its CRC, and the fields a receiver reads
(R84 to R87). -/

namespace Sys2Proof.Machine

/-- One step of the check register for one data bit: shift toward the top, and combine with 0x07 when
the bit shifted out differs from the data bit (R86). -/
def crcBit (reg : Byte) (bit : Bool) : Byte :=
  let shifted := reg <<< 1
  if reg.msb == bit then shifted else shifted ^^^ 0x07#8

/-- The check register over one byte, most significant bit first (R86). -/
def crcByte (reg b : Byte) : Byte :=
  [7, 6, 5, 4, 3, 2, 1, 0].foldl (fun r i => crcBit r (b.getLsbD i)) reg

/-- The check register over a run of bytes, starting at 0xFF (R86). -/
def crcOf (bytes : List Byte) : Byte := bytes.foldl crcByte 0xFF#8

/-- The CRC that a frame's bytes 0 to 6 call for (R86). -/
def frameCrc (f : FrameBytes) : Byte := crcOf [f.b0, f.b1, f.b2, f.b3, f.b4, f.b5, f.b6]

/-- The content bytes of a frame as its sender loads it: sender and kind, stamp, jar field, payloads,
and the CRC over them (R84, R85, R95). -/
def loadFrame (sender : Nat) (stamp : Word) (f : TxFrame) : FrameBytes :=
  let raw : FrameBytes :=
    { b0 := byteOf (16 * sender + f.kind.code)
      b1 := hiByte stamp
      b2 := loByte stamp
      b3 := hiByte f.jar
      b4 := loByte f.jar
      b5 := f.payA
      b6 := f.payB
      b7 := 0 }
  { raw with b7 := frameCrc raw }

/-- A received frame that passed the receive checks: each field as carried (R85, R89). -/
structure RxFrame where
  sender : Station
  kind : Kind
  stamp : Word
  jar : Word
  payA : Byte
  payB : Byte
deriving DecidableEq, Repr

/-- The receive checks on a complete frame: CRC, sender number 1 to 8, kind code 1 to 6 (R89). -/
def readFrame? (f : FrameBytes) : Option RxFrame :=
  if frameCrc f = f.b7 then
    match stationOf? (f.b0.extractLsb' 4 4).toNat, kindOf? (f.b0.extractLsb' 0 4).toNat with
    | some s, some k => some ⟨s, k, wordOf f.b1 f.b2, wordOf f.b3 f.b4, f.b5, f.b6⟩
    | _, _ => none
  else none

/-- The facts a HELLO carries (R85, R87): E and E+W+Q in the jar field; pitch bit and edge code in
payload A; steam limit and gate role in payload B. -/
def helloFacts (jar : Word) (payA payB : Byte) : HelloFacts :=
  { entry := hiByte jar
    exit := loByte jar
    pitchBit := payA.extractLsb' 0 4
    edge := payA.extractLsb' 4 2
    steam := payB.extractLsb' 0 4
    gate := payB.getLsbD 7 }

/-- The HELLO this station queues at START (R87, R170). -/
def helloFrame (i : Image) : TxFrame :=
  { kind := .hello
    jar := wordOf (byteOf i.entryOffset) (byteOf i.probeDistance)
    payA := i[2] &&& 0x3F#8
    payB := (byteOf i.steamLimit &&& 0x0F#8) ||| flagBit 7 i.gateRole }

/-- The CLAIM of a jar: promise distance and band (R51). -/
def claimFrame (i : Image) (j : Jar) : TxFrame :=
  { kind := .claim
    jar := j.pitch
    payA := byteOf i.promiseDistance
    payB := byteOf ((j.band.map Fin.val).getD 0) }

/-- The RELEASE of a jar (R57). -/
def releaseFrame (p : Word) : TxFrame := ⟨.release, p, 0, 0⟩

/-- The STEAM of a draw: start pitch, length, short flag (R130). -/
def steamFrame (start : Word) (length : Byte) (short : Bool) : TxFrame :=
  ⟨.steam, start, length, flagBit 0 short⟩

/-- The WITHDRAW with its reason (R172). -/
def withdrawFrame (why : FaultInput) : TxFrame := ⟨.withdraw, 0, byteOf (withdrawCode why), 0⟩

/-- The deflection byte of a DONE: the smaller of 255 and d div 16, 0 without a deflection (R148). -/
def deflectionByte (m : Measurements) : Byte :=
  match m.probe with
  | some r => match r.deflection with
    | some d => byteOf (min 255 (d.toNat / 16))
    | none => 0
  | none => 0

/-- The DONE of an own closure, from the record as judged (R148). -/
def doneFrame (j : Jar) (v : Verdict) (disp : Disposition) (m : Measurements) : TxFrame :=
  { kind := .done
    jar := j.pitch
    payA := byteOf v.code ||| flagBit 4 (disp == .reject) ||| flagBit 5 j.nearFlag
      ||| flagBit 6 j.overFlag ||| flagBit 7 (j.flush == .short)
    payB := deflectionByte m }

end Sys2Proof.Machine
end

