-- ==== Sys2Proof/Machine/Ops.lean ====
section
/-! DEFINITION. The named operations that the blocks share: counters, track, peer records, transmit
queue, gate queue, draw list. -/

namespace Sys2Proof.Machine

/-! ### Counters (R180): counter i of the table is index i -/

/-- Jars seen. -/
def ctrJarsSeen : Fin 30 := 0
/-- Claims made. -/
def ctrClaimsMade : Fin 30 := 1
/-- Yields. -/
def ctrYields : Fin 30 := 2
/-- Cycles started. -/
def ctrCyclesStarted : Fin 30 := 3
/-- ALREADY_CAPPED. -/
def ctrAlreadyCapped : Fin 30 := 12
/-- NO_CAP. -/
def ctrNoCap : Fin 30 := 13
/-- Aborted cycles. -/
def ctrAborted : Fin 30 := 14
/-- Frames sent. -/
def ctrFramesSent : Fin 30 := 15
/-- Collisions. -/
def ctrCollisions : Fin 30 := 16
/-- Retry drops. -/
def ctrRetryDrops : Fin 30 := 17
/-- Stale removals. -/
def ctrStaleRemovals : Fin 30 := 18
/-- Queue refusals. -/
def ctrQueueRefusals : Fin 30 := 19
/-- Bad frames. -/
def ctrBadFrames : Fin 30 := 20
/-- Skewed frames. -/
def ctrSkewedFrames : Fin 30 := 21
/-- Lapses. -/
def ctrLapses : Fin 30 := 22
/-- Unknown-jar claims. -/
def ctrUnknownJarClaims : Fin 30 := 23
/-- Conflicts. -/
def ctrConflicts : Fin 30 := 24
/-- Late DONE. -/
def ctrLateDone : Fin 30 := 25
/-- Short flushes. -/
def ctrShortFlushes : Fin 30 := 26
/-- Gate rejects. -/
def ctrGateRejects : Fin 30 := 27
/-- UNCAPPED. -/
def ctrUncapped : Fin 30 := 28
/-- Floods. -/
def ctrFloods : Fin 30 := 29

/-- The own-verdict counter of a verdict: index 4 plus its code. UNCAPPED is no own verdict and has none
(R147, R153). -/
def ctrOwnVerdict? (v : Verdict) : Option (Fin 30) :=
  match v with
  | .good => some 4
  | .lowVac => some 5
  | .domed => some 6
  | .under => some 7
  | .overTorque => some 8
  | .crossed => some 9
  | .spin => some 10
  | .unchecked => some 11
  | .uncapped => none

/-- A counter raised by `k`, saturating at 65535; no other counter changes (R180). -/
def State.countBy (i : Fin 30) (k : Nat) (s : State) : State :=
  { s with counters := s.counters.set i.val (satAdd (s.counters.get i) k) i.isLt }

/-- A counter raised by one (R180). -/
def State.count (i : Fin 30) (s : State) : State := s.countBy i 1

/-- Raise the own-verdict counter of a verdict (R147). -/
def State.countOwnVerdict (v : Verdict) (s : State) : State :=
  match ctrOwnVerdict? v with
  | some i => s.count i
  | none => s

/-! ### Settings and states -/

/-- The settings of the run: the image as the last START took it (R13, R41, R140). -/
abbrev State.cfg (s : State) : Image := s.ctl.taken

/-- The station takes strobes, steps and frames: RUN or WITHDRAWN. -/
def State.inRun (s : State) : Bool := s.ctl.mode.inRun

/-- The distance of a pitch from the station's N (R11). -/
def State.dist (s : State) (p : Word) : Nat := distance s.clk.n p

/-! ### The jar track (R33 to R35) -/

/-- The record of a pitch number, or none (R35). -/
def State.findJar (s : State) (p : Word) : Option Jar := s.track.find? (fun j => j.pitch == p)

/-- Change the record of a pitch number in its place; the order is kept (R34). -/
def State.updJar (p : Word) (f : Jar → Jar) (s : State) : State :=
  { s with track := s.track.map (fun x => if x.pitch == p then f x else x) }

/-- Put a record in the place of the record of its pitch (R34). -/
def State.putJar (j : Jar) (s : State) : State := s.updJar j.pitch (fun _ => j)

/-- A record returned to OPEN with the reopened flag set, from HELD_PEER or CLAIMED (R23, R59, R66). -/
def Jar.reopen (j : Jar) : Jar := { j with st := .openJar, reopened := true }

/-- A record given back from IN_CHUCK: to OPEN with its own results discarded (R24). -/
def Jar.discard (j : Jar) : Jar :=
  { j with st := .openJar, nearFlag := false, overFlag := false, flush := .noFlush }

/-- Whether a record is HELD_PEER under the given claimant. -/
def Jar.heldBy (k : Station) (j : Jar) : Bool :=
  match j.st with
  | .heldPeer c _ _ => c == k
  | _ => false

/-- Whether a record is CLAIMED by this station. -/
def Jar.isClaimed (j : Jar) : Bool :=
  match j.st with
  | .claimed => true
  | _ => false

/-- Whether a record is IN_CHUCK. -/
def Jar.isInChuck (j : Jar) : Bool :=
  match j.st with
  | .inChuck _ => true
  | _ => false

/-- Whether a record is DONE. -/
def Jar.isDone (j : Jar) : Bool :=
  match j.st with
  | .done _ _ _ _ => true
  | _ => false

/-- Reopen every record in HELD_PEER that names a peer (R62). -/
def State.reopenHeldBy (k : Station) (s : State) : State :=
  { s with track := s.track.map (fun j => if j.heldBy k then j.reopen else j) }

/-! ### The peer table -/

/-- The record of a peer. -/
def State.peer (s : State) (k : Station) : Peer := s.peers.recs.get k

/-- Put a peer's record. -/
def State.putPeer (k : Station) (p : Peer) (s : State) : State :=
  { s with peers := { s.peers with recs := s.peers.recs.set k.val p k.isLt } }

/-- Whether a peer is LIVE. -/
def Peer.isLive (p : Peer) : Bool :=
  match p.st with
  | .live => true
  | _ => false

/-- Move a peer to a state other than LIVE: its record and the reopening of the records held for it are
one action (R62, R69 note 2). -/
def State.setAside (k : Station) (p : Peer) (s : State) : State := (s.putPeer k p).reopenHeldBy k

/-! ### The transmit queue (R92, R93) -/

/-- Queue a frame at the tail; at a full queue it is refused and counted (R92). -/
def State.enqueue (f : TxFrame) (s : State) : State :=
  if s.line.queue.length < Config.txPlaces then
    { s with line := { s.line with queue := s.line.queue ++ [f] } }
  else s.count ctrQueueRefusals

/-- Whether the head of the queue is the frame on the line. -/
def BankLine.headOnLine (l : BankLine) : Bool :=
  match l.sending with
  | some x => !x.detached
  | none => false

/-- Remove the waiting frames that `gone` picks; a frame on the line stays. When the head is removed the
next head starts with a retry count of 0 (R93). -/
def BankLine.removeWaiting (gone : TxFrame → Bool) (l : BankLine) : BankLine :=
  match l.queue with
  | [] => l
  | f :: rest =>
    if l.headOnLine then { l with queue := f :: rest.filter (fun x => !gone x) }
    else
      { l with
        queue := (f :: rest).filter (fun x => !gone x)
        retries := if gone f then 0 else l.retries }

/-- Mark the frame on the line for removal if its send stops at a collision (R96). A detached frame is
in no queue and is gone in any case (R102). -/
def BankLine.doomSending (gone : TxFrame → Bool) (l : BankLine) : BankLine :=
  match l.sending with
  | some x => if gone x.frame then { l with sending := some { x with doomed := true } } else l
  | none => l

/-- A removal at a block's request: waiting frames go now, a frame on the line at a collision; no
counter rises (R93, R96). -/
def BankLine.withdrawFrames (gone : TxFrame → Bool) (l : BankLine) : BankLine :=
  (l.removeWaiting gone).doomSending gone

/-- The CLAIM of one jar, as a removal names it (R93). -/
def isClaimOf (p : Word) (f : TxFrame) : Bool := f.kind == .claim && f.jar == p

/-- The kinds a run-stop prunes (R100). -/
def prunedAtStop (f : TxFrame) : Bool := f.kind == .claim || f.kind == .release || f.kind == .steam

/-- Whether a frame is stale at N: a CLAIM whose jar has reached E, a STEAM whose draw has ended (R98,
R99). -/
def staleFrame (i : Image) (n : Word) (f : TxFrame) : Bool :=
  match f.kind with
  | .claim => decide (i.entryOffset ≤ distance n f.jar)
  | .steam => decide (f.payA.toNat ≤ distance n f.jar)
  | .hello => false
  | .release => false
  | .done => false
  | .withdraw => false

/-- The frames of the queue that wait, that is all but a head on the line. -/
def BankLine.waiting (l : BankLine) : List TxFrame := if l.headOnLine then l.queue.tail else l.queue

/-! ### The gate queue (R157, R158) -/

/-- The distance to the gate of a pitch: (p + G - N) mod 65536 (R154). -/
def gateDistance (i : Image) (n p : Word) : Nat := (p + BitVec.ofNat 16 i.gateOffset - n).toNat

/-- Place an entry in ascending order of distance to the gate (R157). -/
def gatePlace (i : Image) (n : Word) (e : GateEntry) : List GateEntry → List GateEntry
  | [] => [e]
  | x :: rest =>
    if gateDistance i n x.pitch ≤ gateDistance i n e.pitch then x :: gatePlace i n e rest
    else e :: x :: rest

/-- Insert a reject into the gate queue: nothing for a pitch already held; at a full queue the nearest of
the 33 is dropped, FLOOD is set and a flood counted (R157, R158). -/
def State.gateInsert (p : Word) (v : Verdict) (s : State) : State :=
  let placed := gatePlace s.cfg s.clk.n ⟨p, v⟩ s.gate.queue
  if s.gate.queue.any (fun x => x.pitch == p) then s
  else if s.gate.queue.length < Config.gatePlaces then { s with gate := { s.gate with queue := placed } }
  else { s with gate := { s.gate with queue := placed.tail, flood := true } }.count ctrFloods

/-- Hand a verdict to the gate: on the gate-role station, when the disposition is REJECT (R147 step 4,
R149). -/
def State.handToGate (p : Word) (v : Verdict) (disp : Disposition) (s : State) : State :=
  match disp with
  | .reject => if s.cfg.gateRole then s.gateInsert p v else s
  | .pass => s

/-! ### The draw list (R126) -/

/-- The age of a draw (R126). -/
def Draw.age (n : Word) (d : Draw) : Nat := distance n d.start

/-- Whether a draw counts as in progress: its age is below its length, or is 65535 (R126). -/
def Draw.inProgress (n : Word) (d : Draw) : Bool :=
  decide (d.age n < d.length.toNat) || decide (d.age n = 65535)

/-- Enter a draw, replacing the station's entry (R127, R130). -/
def enterDraw (d : Draw) (l : List Draw) : List Draw := l.filter (fun x => x.station != d.station) ++ [d]

end Sys2Proof.Machine
end

