-- ==== Sys2Proof/Machine/Verdict.lean ====
section
/-! DEFINITION. The verdict unit: drive classification, deflection and probe verdict, own verdicts, and
the intake of peers' DONE frames (R141 to R152). -/

namespace Sys2Proof.Machine

/-- How a drive ended (R117). -/
inductive DriveEnd where
  | torqueReached
  | angleLimit
  | expiry
deriving DecidableEq, Repr

/-- The classes of R141: torque OK, torque OK with NEAR, or a verdict. -/
inductive DriveClass where
  | torqueOk
  | torqueOkNear
  | fails (v : Verdict)
deriving DecidableEq, Repr

/-- The classification of a drive (R141). The sum of peak and tol_u is formed without loss. -/
def classifyDrive (i : Image) (e : ProfileEntry) (how : DriveEnd) (peak theta : Byte) (seat : Bool) :
    DriveClass :=
  match how with
  | .torqueReached => if theta.toNat < e.amin.toNat then .fails .crossed else .torqueOk
  | .angleLimit => .fails .spin
  | .expiry =>
    if seat && decide (e.target.toNat ≤ peak.toNat + i.tolUnder) then .torqueOkNear else .fails .under

/-- Whether over-torque holds: the peak is above the target plus tol_o, summed without loss (R143). -/
def overTorqueHolds (i : Image) (e : ProfileEntry) (peak : Byte) : Bool :=
  decide (e.target.toNat + i.tolOver < peak.toNat)

/-- A probe reading at a rail, 0 or 4095 (R144). -/
def probeRail (x : Micron) : Bool := x == 0 || x == 4095

/-- The deflection: r - q when r is above q, 0 when it is not, absent at a rail (R144). -/
def deflectionOf (r q : Micron) : Option Micron :=
  if probeRail r || probeRail q then none
  else if q.toNat < r.toNat then some (r - q) else some 0

/-- The deflection required after a flush: d_short after a short one and d_full after a full one (R144).
A record at the probe always has one of the two (R145). -/
def requirement (i : Image) (f : FlushKind) : Nat :=
  match f with
  | .short => i.deflectShort
  | .full => i.deflectFull
  | .noFlush => i.deflectFull

/-- The probe's verdict (R144). -/
def probeVerdict (i : Image) (f : FlushKind) (r q : Micron) : Verdict :=
  match deflectionOf r q with
  | none => .unchecked
  | some d =>
    if requirement i f ≤ d.toNat then .good
    else if r.toNat + i.domeMargin < q.toNat then .domed else .lowVac

/-- Set the verdict of one of this station's own closures: record to DONE with this station as source,
the code counted, a DONE queued, a reject handed to the gate (R147). -/
def State.setOwnVerdict (j : Jar) (v : Verdict) (m : Measurements) (s : State) : State :=
  let disp := dispositionOf s.cfg v j.nearFlag
  (((s.putJar { j with st := .done v (.station s.cfg.own) disp (some m) }).countOwnVerdict v).enqueue
    (doneFrame j v disp m)).handToGate j.pitch v disp

/-- The verdict of a peer's DONE set on a record: verdict, disposition and flags as carried, the sender
as source, measurements absent; a reject is handed to the gate (R149). -/
def State.setPeerVerdict (j : Jar) (sender : Station) (v : Verdict) (disp : Disposition) (payA : Byte)
    (s : State) : State :=
  (s.putJar
    { j with
      st := .done v (.station sender) disp none
      nearFlag := payA.getLsbD 5
      overFlag := payA.getLsbD 6 }).handToGate j.pitch v disp

/-- An own claim dropped at CLAIMED: the open-claim count falls and the own CLAIM is removed if unsent
(R65; the same removal at a yield, R55). -/
def State.dropClaim (p : Word) (s : State) : State :=
  { s with
    claims := { s.claims with openClaims := s.claims.openClaims - 1 }
    line := s.line.withdrawFrames (isClaimOf p) }

/-- The disposition bit of a DONE, payload A bit 4 (R148). -/
def doneDisposition (payA : Byte) : Disposition := if payA.getLsbD 4 then .reject else .pass

/-- A DONE from a peer acting on the record it names, by the record's state (R149, R150). -/
def State.doneOnRecord (j : Jar) (sender : Station) (v : Verdict) (payA : Byte) (s : State) : State :=
  let disp := doneDisposition payA
  match j.st with
  | .openJar => s.setPeerVerdict j sender v disp payA
  | .heldPeer _ _ _ => s.setPeerVerdict j sender v disp payA
  | .claimed => (s.setPeerVerdict j sender v disp payA).dropClaim j.pitch
  | .inChuck _ => s.count ctrConflicts
  | .probeWait _ => s.count ctrConflicts
  | .done _ .gate _ _ => (s.putJar { j with conflict := true }).count ctrLateDone
  | .done v' (.station _) disp' _ =>
    if v = v' ∧ disp = disp' then s else (s.putJar { j with conflict := true }).count ctrConflicts

/-- The verdict unit takes a peer's DONE: codes 8 to 15 are ignored, a DONE without a record is late
(R149). -/
def State.takeDone (sender : Station) (jar : Word) (payA : Byte) (s : State) : State :=
  match verdictOfDone? (payA.extractLsb' 0 4).toNat with
  | none => s
  | some v =>
    match s.findJar jar with
    | none => s.count ctrLateDone
    | some j => s.doneOnRecord j sender v payA

end Sys2Proof.Machine
end

