-- ==== Sys2Proof/Machine/PeerTable.lean ====
section
/-! DEFINITION. The peer table: HELLO checks, skew, lapse reports and parking, refresh, withdrawal
(R68 to R83). -/

namespace Sys2Proof.Machine

/-! ### HELLO (R72 to R74) -/

/-- The HELLO check against this station's own settings: none when it passes, and otherwise the reason of
the first failing check (R72). -/
def helloCheck (i : Image) (sender : Station) (f : HelloFacts) : Option MismatchReason :=
  if f.pitchBit ≠ i.pitchBit ∨ f.edge ≠ i.edge then some .pitchDef
  else if f.steam.toNat ≠ i.steamLimit then some .steamLimit
  else if (stationNum sender < i.number ∧ f.entry.toNat < i.entryOffset)
      ∨ (i.number < stationNum sender ∧ i.entryOffset < f.entry.toNat) then none
  else some .order

/-- GATE_CONFLICT and GATE_SHORT as a stored HELLO leaves them: each may be set, none is cleared (R74). -/
def State.gateFlags (f : HelloFacts) (s : State) : State :=
  { s with
    peers :=
      { s.peers with
        gateConflict := s.peers.gateConflict || (s.cfg.gateRole && f.gate)
        gateShort := s.peers.gateShort || (s.cfg.gateRole && decide (s.cfg.bankExit ≤ f.exit.toNat)) } }

/-- The outcome of a HELLO check by the sender's state (R73). `p` is the sender's record with the
facts stored. -/
def State.helloOutcome (k : Station) (p : Peer) (check : Option MismatchReason) (s : State) : State :=
  match p.st, check with
  | .withdrawn, _ => s.putPeer k p
  | .parked _, none => s.putPeer k p
  | .mismatched _, none => s.putPeer k { p with st := .live, lapses := 0, skew := 0 }
  | .absent, none => s.putPeer k { p with st := .live }
  | .live, none => s.putPeer k p
  | .absent, some why => s.setAside k { p with st := .mismatched why }
  | .live, some why => s.setAside k { p with st := .mismatched why }
  | .parked _, some why => s.setAside k { p with st := .mismatched why }
  | .mismatched _, some why => s.setAside k { p with st := .mismatched why }

/-- A HELLO taken in step: facts stored, flags tested, checks made (R72, R73, R74). -/
def State.takeHello (k : Station) (jar : Word) (payA payB : Byte) (s : State) : State :=
  let f := helloFacts jar payA payB
  (s.gateFlags f).helloOutcome k { s.peer k with facts := some f } (helloCheck s.cfg k f)

/-! ### Skew (R75) -/

/-- An out-of-step frame: counted among skewed frames, and against its sender by the sender's state; the
eighth in a row sets the peer aside (R75). DESIGN CHOICE (log entry 30): the state is the one that stands when the
frame is taken, so a frame taken after a HELLO has made a MISMATCHED sender LIVE raises its skew count, where R81
speaks of no change in either order. -/
def State.takeSkewed (k : Station) (s : State) : State :=
  let s := s.count ctrSkewedFrames
  let p := s.peer k
  match p.st with
  | .mismatched _ => s
  | .withdrawn => s.putPeer k { p with skew := countTo Config.skewLimit p.skew }
  | .absent =>
    if p.skew + 1 = Config.skewLimit then s.setAside k { p with st := .mismatched .skew, skew := p.skew + 1 }
    else s.putPeer k { p with skew := p.skew + 1 }
  | .live =>
    if p.skew + 1 = Config.skewLimit then s.setAside k { p with st := .mismatched .skew, skew := p.skew + 1 }
    else s.putPeer k { p with skew := p.skew + 1 }
  | .parked _ =>
    if p.skew + 1 = Config.skewLimit then s.setAside k { p with st := .mismatched .skew, skew := p.skew + 1 }
    else s.putPeer k { p with skew := p.skew + 1 }

/-! ### Lapse reports (R59, R76) -/

/-- A lapse reported against a LIVE claimant: its count rises, and at the park limit it becomes PARKED
with an empty refresh set and its records are reopened (R76, R62). -/
def State.reportLapse (k : Station) (s : State) : State :=
  let p := s.peer k
  match p.st with
  | .live =>
    if p.lapses + 1 = s.cfg.parkLimit then s.setAside k { p with st := .parked 0, lapses := p.lapses + 1 }
    else s.putPeer k { p with lapses := p.lapses + 1 }
  | .absent => s
  | .parked _ => s
  | .mismatched _ => s
  | .withdrawn => s

/-! ### Refresh (R78, R79) -/

/-- A member put into a refresh set, once (R78). -/
def refreshAdd (k : Station) (r : BitVec 8) : BitVec 8 := r ||| BitVec.twoPow 8 k.val

/-- The refresh test of a PARKED peer `p` with set `r`: it holds p itself, this station, and every other
peer that is LIVE in `recs` (R79). -/
def refreshPasses (own p : Station) (recs : Vector Peer 8) (r : BitVec 8) : Bool :=
  r.getLsbD p.val && r.getLsbD own.val
    && (List.finRange 8).all (fun q => q == p || !(recs.get q).isLive || r.getLsbD q.val)

/-- A DONE heard from, or sent by, station `k`, as one peer record takes it: a PARKED peer's set gains
`k`, and the peer returns to LIVE when the test passes. The LIVE peers are those of `recs`, the table
before any peer returns at this event (R78, R79). -/
def refreshPeer (own k p : Station) (recs : Vector Peer 8) : Peer :=
  let x := recs.get p
  match x.st with
  | .parked r =>
    if refreshPasses own p recs (refreshAdd k r) then { x with st := .live, lapses := 0 }
    else { x with st := .parked (refreshAdd k r) }
  | .absent => x
  | .live => x
  | .mismatched _ => x
  | .withdrawn => x

/-- The refresh collection and test at one DONE, while refresh is enabled (R78, R79). -/
def State.refresh (k : Station) (s : State) : State :=
  if s.cfg.refresh then
    { s with
      peers := { s.peers with recs := Vector.ofFn (fun p => refreshPeer s.cfg.own k p s.peers.recs) } }
  else s

/-! ### WITHDRAW (R80) -/

/-- A WITHDRAW taken: its sender becomes WITHDRAWN and its records are reopened (R80, R62). -/
def State.takeWithdraw (k : Station) (s : State) : State :=
  let p := s.peer k
  match p.st with
  | .absent => s.setAside k { p with st := .withdrawn }
  | .live => s.setAside k { p with st := .withdrawn }
  | .parked _ => s.setAside k { p with st := .withdrawn }
  | .mismatched _ => s
  | .withdrawn => s

end Sys2Proof.Machine
end

