-- ==== Sys2Proof/Machine/Claims.lean ====
section
/-! DEFINITION. The claim logic: the claim test, CLAIM and RELEASE frames of peers, lapses, and the
records given back (R41 to R67). -/

namespace Sys2Proof.Machine

/-! ### The claim test (R44 to R51) -/

/-- The state test (R46). -/
def stateTest (j : Jar) : Bool :=
  match j.st with
  | .openJar => true
  | _ => false

/-- The profile test: the record is profiled and its band is not disabled (R46). -/
def profileTest (s : State) (j : Jar) : Bool :=
  match j.band with
  | some b => decide ((s.verdicts.profile.get b).target ≠ 0)
  | none => false

/-- Whether the station is the tail: no LIVE peer downstream (R47). -/
def State.isTail (s : State) : Bool :=
  (List.finRange 8).all (fun k => decide (stationNum k ≤ s.cfg.number) || !(s.peer k).isLive)

/-- The bit of the share pattern at (p + phase) mod 8 (R47). -/
def patternBit (i : Image) (p : Word) : Bool := i.share.getLsbD ((p.toNat + i.sharePhase) % 8)

/-- The share test: pattern, tail, or reopened (R47). -/
def shareTest (s : State) (j : Jar) : Bool := patternBit s.cfg j.pitch || s.isTail || j.reopened

/-- The commitment test (R48). -/
def commitTest (s : State) : Bool := decide (s.claims.openClaims < s.cfg.commitLimit)

/-- The difference of two distances, whichever record is the older (R49). -/
def apart (a b : Nat) : Nat := (a - b) + (b - a)

/-- The spacing test: every own record in CLAIMED or IN_CHUCK is at least L + Rt pitches away, and the
record reaches E no sooner than the busy count runs out (R49). -/
def spacingTest (s : State) (j : Jar) : Bool :=
  s.track.all (fun x => !(x.isClaimed || x.isInChuck)
      || decide (s.head.plan.total + s.cfg.returnPitches ≤ apart (s.dist x.pitch) (s.dist j.pitch)))
    && decide (s.claims.busy ≤ s.cfg.entryOffset - s.dist j.pitch)

/-- The slot test (R50). -/
def slotTest (s : State) : Bool := decide (s.line.queue.length < Config.txPlaces)

/-- The six tests of one record (R45). -/
def claimable (s : State) (j : Jar) : Bool :=
  stateTest j && profileTest s j && shareTest s j && commitTest s && spacingTest s j && slotTest s

/-- An own claim, in one action: the record to CLAIMED, a CLAIM queued, the open-claim count and the claims
made raised (R51). DESIGN CHOICE (log entry 29): the busy count stands. R45 says that an earlier claim of the strobe
counts in the busy count against later records, and neither R43 nor R51 gives a claim a change of it; here it
counts against them through the spacing from the record just claimed (R49). -/
def State.makeClaim (j : Jar) (s : State) : State :=
  let s := (s.putJar { j with st := .claimed }).enqueue (claimFrame s.cfg j)
  { s with claims := { s.claims with openClaims := s.claims.openClaims + 1 } }.count ctrClaimsMade

/-- The claim test of one record of the range, read as the claims before it left the state (R45). -/
def State.claimOne (s : State) (p : Word) : State :=
  match s.findJar p with
  | some j => if claimable s j then s.makeClaim j else s
  | none => s

/-- The pitches of the records at distances E - A to E - 1, oldest first (R45). -/
def State.claimRange (s : State) : List Word :=
  (s.track.filter (fun j => decide (s.cfg.entryOffset - s.cfg.claimLead ≤ s.dist j.pitch)
    && decide (s.dist j.pitch < s.cfg.entryOffset))).map Jar.pitch

/-- The claim test of a strobe: in RUN while CAP_LOW is not asserted (R44, R45). -/
def State.claimTest (s : State) : State :=
  if s.ctl.mode = .run ∧ s.pins.capLow = false then s.claimRange.foldl State.claimOne s else s

/-! ### Frames of peers (R52 to R56) -/

/-- The promise pitch of a CLAIM: p plus payload A (R58). -/
def promisePitch (p : Word) (payA : Byte) : Word := p + payA.setWidth 16

/-- Whether the promise of a CLAIM taken at N falls due at a later strobe: its promise distance is above the
record's distance at that moment. At or below it that pitch has already passed (R58). -/
def promiseAhead (n p : Word) (payA : Byte) : Bool := decide (distance n p < payA.toNat)

/-- The record a CLAIM taken at N leaves HELD_PEER under its sender (R53, R54, R58). -/
def Jar.holdFor (n : Word) (k : Station) (payA : Byte) (j : Jar) : Jar :=
  { j with st := .heldPeer k (promisePitch j.pitch payA) (promiseAhead n j.pitch payA) }

/-- A CLAIM of a LIVE peer acting on the record it names (R53, R54). -/
def State.claimOnRecord (j : Jar) (k : Station) (payA : Byte) (s : State) : State :=
  match j.st with
  | .openJar => s.putJar (j.holdFor s.clk.n k payA)
  | .heldPeer c _ _ => if stationNum k < stationNum c then s.putJar (j.holdFor s.clk.n k payA) else s
  | .claimed =>
    if stationNum k < s.cfg.number then
      ((s.putJar (j.holdFor s.clk.n k payA)).dropClaim j.pitch).count ctrYields
    else s
  | .inChuck _ => s
  | .probeWait _ => s
  | .done _ _ _ _ => s

/-- The claim logic takes a CLAIM: a sender that is not LIVE, and a jar without a record, are counted as
unknown-jar claims (R52). -/
def State.takeClaim (k : Station) (jar : Word) (payA : Byte) (s : State) : State :=
  if (s.peer k).isLive then
    match s.findJar jar with
    | some j => s.claimOnRecord j k payA
    | none => s.count ctrUnknownJarClaims
  else s.count ctrUnknownJarClaims

/-- The claim logic takes a RELEASE: a record in HELD_PEER under a LIVE sender reopens (R56). -/
def State.takeRelease (k : Station) (jar : Word) (s : State) : State :=
  match s.findJar jar with
  | some j => if (s.peer k).isLive && j.heldBy k then s.putJar j.reopen else s
  | none => s

/-! ### Lapses (R59) -/

/-- Whether a record is HELD_PEER with its promise due at N: N equals the promise pitch, and that pitch had not
passed when the CLAIM was taken (R58, R59). -/
def Jar.dueAt (n : Word) (j : Jar) : Bool :=
  match j.st with
  | .heldPeer _ promise ahead => ahead && promise == n
  | _ => false

/-- The lapse of the promise of one jar, when it is due: the record reopens, the lapse is counted and
reported against the claimant (R58, R59). -/
def State.lapseOne (s : State) (p : Word) : State :=
  match s.findJar p with
  | none => s
  | some j =>
    match j.st with
    | .heldPeer k _ _ =>
      if j.dueAt s.clk.n then ((s.putJar j.reopen).count ctrLapses).reportLapse k else s
    | .openJar => s
    | .claimed => s
    | .inChuck _ => s
    | .probeWait _ => s
    | .done _ _ _ _ => s

/-- The lapse checks of a strobe, oldest first (R59). -/
def State.lapseChecks (s : State) : State :=
  ((s.track.filter (Jar.dueAt s.clk.n)).map Jar.pitch).foldl State.lapseOne s

/-! ### Records given back (R57, R66) -/

/-- The record in IN_CHUCK reopened after NO_CAP, HEAD_FAULT or JAM: results discarded, reopened flag
set, and a RELEASE queued (R24, R57). -/
def State.giveBack (j : Jar) (s : State) : State :=
  (s.putJar { j.discard with reopened := true }).enqueue (releaseFrame j.pitch)

/-- At entry to WITHDRAWN every own CLAIMED record is reopened, the open-claim count becomes 0, and the
own unsent CLAIMs are removed (R66). -/
def State.giveBackClaims (s : State) : State :=
  { s with
    track := s.track.map (fun j => if j.isClaimed then j.reopen else j)
    claims := { s.claims with openClaims := 0 }
    line := s.line.withdrawFrames (fun f => f.kind == .claim) }

end Sys2Proof.Machine
end

