-- ==== Sys2Proof/Machine/Steam.lean ====
section
/-! DEFINITION. The steam share: the decision at FLUSH start, peers' STEAM frames, and the end of draws
(R126 to R134). -/

namespace Sys2Proof.Machine

/-- The draws in progress other than this station's own (R128). -/
def State.drawsCounted (s : State) : Nat :=
  (s.steam.draws.filter (fun d => d.inProgress s.clk.n && d.station != s.cfg.own)).length

/-- Whether the flush is short: by the limit, or by the fairness yield (R128, R129). -/
def State.flushIsShort (s : State) : Bool :=
  decide (s.cfg.steamLimit ≤ s.drawsCounted)
    || (decide (0 < s.cfg.fairness) && decide (s.cfg.fairness ≤ s.steam.fullRun) && s.steam.shortHeard)

/-- The draw length: the planned FLUSH length, or half of it rounded up (R130). -/
def drawLength (lf : Nat) (short : Bool) : Nat := if short then (lf + 1) / 2 else lf

/-- The steam share's effects at a FLUSH start: own entry, full run, mark, the STEAM queued, and a short
flush counted (R128, R130). -/
def State.decideFlush (s : State) : State :=
  let short := s.flushIsShort
  let len := byteOf (drawLength s.head.plan.flush short)
  let t := { s with
    steam :=
      { draws := enterDraw ⟨s.cfg.own, s.clk.n, len⟩ s.steam.draws
        fullRun := if short then 0 else countTo 15 s.steam.fullRun
        shortHeard := if short then false else s.steam.shortHeard } }
  let u := t.enqueue (steamFrame s.clk.n len short)
  if short then u.count ctrShortFlushes else u

/-- The steam share takes a STEAM: zero length is ignored, the short flag sets the mark, and a draw not
yet ended is entered for its sender (R127). -/
def State.takeSteam (k : Station) (jar : Word) (payA payB : Byte) (s : State) : State :=
  if payA = 0 then s
  else
    let d : Draw := ⟨k, jar, payA⟩
    { s with
      steam :=
        { s.steam with
          shortHeard := s.steam.shortHeard || payB.getLsbD 0
          draws := if d.inProgress s.clk.n then enterDraw d s.steam.draws else s.steam.draws } }

/-- Whether a draw ends at N: its age equals its length (R131). -/
def Draw.endsAt (n : Word) (d : Draw) : Bool := decide (d.age n = d.length.toNat)

/-- The removal of ended draws at a strobe (R131). -/
def State.endDraws (s : State) : State :=
  { s with steam := { s.steam with draws := s.steam.draws.filter (fun d => !d.endsAt s.clk.n) } }

end Sys2Proof.Machine
end

