-- ==== Sys2Proof/Machine/Gate.lean ====
section
/-! DEFINITION. The reject gate: the exit decision and the gate decision of a strobe (R154 to R163). -/

namespace Sys2Proof.Machine

/-- Whether the head entry is due: its pitch plus G equals N (R159). -/
def GateEntry.dueAt (i : Image) (n : Word) (e : GateEntry) : Bool :=
  e.pitch + BitVec.ofNat 16 i.gateOffset == n

/-- The gate after its decision at N, without the counting: the due head leaves; FLOOD clears when the
queue is then empty; the output is REJECT for a due entry or under FLOOD (R159 steps 1 to 3). -/
def Gate.decide (i : Image) (n : Word) (g : Gate) : Gate :=
  let due := match g.queue with
    | [] => false
    | e :: _ => e.dueAt i n
  let queue := if due then g.queue.tail else g.queue
  let flood := g.flood && !queue.isEmpty
  { queue := queue, flood := flood, output := if due || flood then .reject else .pass }

/-- The gate decision of a strobe, on the gate-role station (R159). -/
def State.gateDecision (s : State) : State :=
  if s.cfg.gateRole then
    let g := s.gate.decide s.cfg s.clk.n
    let t := { s with gate := g }
    match g.output with
    | .reject => t.count ctrGateRejects
    | .pass => t
  else s

/-- The exit decision of a strobe, on the gate-role station: a record at distance X that is not DONE is
marked UNCAPPED with source GATE, counted, and inserted into the gate queue (R155). -/
def State.exitDecision (s : State) : State :=
  if s.cfg.gateRole then
    match s.track.find? (fun j => decide (s.dist j.pitch = s.cfg.bankExit)) with
    | none => s
    | some j =>
      if j.isDone then s
      else
        ((s.putJar { j with st := .done .uncapped .gate .reject none }).count ctrUncapped).gateInsert
          j.pitch .uncapped
  else s

end Sys2Proof.Machine
end

