-- ==== Sys2Proof/Machine/Capping.lean ====
section
/-! DEFINITION. The capping cycle: stages, cap checks, drive, hold, lift, return and probe (R104 to
R121), and the give-up and abort of a cycle (R122, R124). -/

namespace Sys2Proof.Machine

/-- The record the cycle works on: the IN_CHUCK record of the cycle pitch, with its measurements. -/
def State.chuckJar? (s : State) : Option (Jar × Measurements) :=
  match s.head.cyclePitch with
  | none => none
  | some p =>
    match s.findJar p with
    | none => none
    | some j =>
      match j.st with
      | .inChuck m => some (j, m)
      | _ => none

/-- The chuck goes to the pick position: RETURNING with Rt pitches left, READY when Rt is 0; the cycle
pitch becomes absent (R106 note 2). -/
def State.toPick (s : State) : State :=
  { s with
    head :=
      { s.head with
        cyclePitch := none
        chuck := if s.cfg.returnPitches = 0 then .ready else .returning
        returnLeft := s.cfg.returnPitches } }

/-- An early LIFT: chuck up, valve closed, spindle off, cycle pitch absent (R106 note 1, R107). -/
def State.earlyLift (s : State) : State :=
  { s with head := { s.head with chuck := .lift, cyclePitch := none, valveLeft := 0 } }

/-! ### ENGAGE (R108 to R110) -/

/-- NO_CAP: the jar is given back, counted, and the chuck goes to the pick position (R110). -/
def State.noCap (s : State) : State :=
  match s.chuckJar? with
  | some (j, _) => ((s.giveBack j).count ctrNoCap).toPick
  | none => (s.count ctrNoCap).toPick

/-- One sample of CAP_IN_CHUCK in ENGAGE: cap found, re-pick, or NO_CAP (R110). -/
def State.capCheck (capInChuck : Bool) (s : State) : State :=
  if capInChuck then { s with head := { s.head with capFound := true } }
  else if 0 < s.head.retriesLeft then
    { s with head := { s.head with retriesLeft := s.head.retriesLeft - 1 } }
  else s.noCap

/-- The abandon as ALREADY_CAPPED: back to OPEN with the reopened flag kept, no frame, an early LIFT
(R109). -/
def State.alreadyCapped (j : Jar) (s : State) : State :=
  ((s.putJar j.discard).count ctrAlreadyCapped).earlyLift

/-- The move of ENGAGE start: record to IN_CHUCK, counts, cycle pitch, profile entry, retries (R108
steps 1 to 4). -/
def State.beginCycle (j : Jar) (s : State) : State :=
  let t := s.putJar { j with st := .inChuck ⟨0, 0, none⟩ }
  { t with
    claims := ⟨s.claims.openClaims - 1, s.head.plan.total + s.cfg.returnPitches⟩
    head :=
      { s.head with
        chuck := .engage
        cyclePitch := some j.pitch
        capFound := false
        retriesLeft := s.head.plan.retries
        phase := .idle
        seatReached := false
        entry := match j.band with
          | some b => s.verdicts.profile.get b
          | none => ProfileEntry.zero } }.count ctrCyclesStarted

/-- ENGAGE start on a record, with the cap checks of the same action (R108 to R110). -/
def State.engageStart (j : Jar) (pins : StrobePins) (s : State) : State :=
  let t := s.beginCycle j
  if pins.jarCapped then t.alreadyCapped { j with st := .inChuck ⟨0, 0, none⟩ }
  else t.capCheck pins.capInChuck

/-- The own CLAIMED record at distance E (R108). -/
def State.jarToEngage? (s : State) : Option Jar :=
  s.track.find? (fun j => j.isClaimed && decide (s.dist j.pitch = s.cfg.entryOffset))

/-- ENGAGE start when a CLAIMED record stands at E in RUN, and otherwise the fall of the chuck busy count
(R43, R108). -/
def State.engageOrFall (pins : StrobePins) (s : State) : State :=
  match (if s.ctl.mode = .run then s.jarToEngage? else none) with
  | some j => s.engageStart j pins
  | none => { s with claims := { s.claims with busy := s.claims.busy - 1 } }

/-! ### FLUSH, SEAT, DRIVE start (R111 to R114) -/

/-- FLUSH start: the steam share decides, the record takes its flush kind, the valve opens for the draw
length (R112, R130). -/
def State.flushStart (p : Word) (s : State) : State :=
  let short := s.flushIsShort
  let len := drawLength s.head.plan.flush short
  let t := s.decideFlush.updJar p (fun j => { j with flush := if short then .short else .full })
  { t with head := { t.head with chuck := .flush, valveLeft := len } }

/-- SEAT start: the valve is closed (R113). -/
def State.seatStart (s : State) : State := { s with head := { s.head with chuck := .seat, valveLeft := 0 } }

/-- The valve pitches left fall by one; at 0 STEAM_V closes (R112). -/
def State.valveFall (s : State) : State :=
  { s with head := { s.head with valveLeft := s.head.valveLeft - 1 } }

/-- DRIVE start: spindle on, drive RUNNING, seat cleared, peak and angle 0 (R114). -/
def State.driveStart (s : State) : State :=
  let t := { s with head := { s.head with chuck := .drive, phase := .running, seatReached := false } }
  match s.chuckJar? with
  | some (j, m) => t.putJar { j with st := .inChuck { m with peak := 0, theta := 0 } }
  | none => t

/-! ### The drive and the hold (R115 to R118) -/

/-- The end of the drive: phase ENDED, and the verdict unit's answer. A verdict set lifts the chuck early;
torque judged good lets the jar go on (R117, R141, R142). -/
def State.endDrive (how : DriveEnd) (s : State) : State :=
  let t := { s with head := { s.head with phase := .ended } }
  match s.chuckJar? with
  | none => t
  | some (j, m) =>
    match classifyDrive s.cfg s.head.entry how m.peak m.theta s.head.seatReached with
    | .torqueOk => t
    | .torqueOkNear => t.putJar { j with nearFlag := true }
    | .fails v => (t.setOwnVerdict j v m).earlyLift

/-- The larger of two bytes: the peak's update (R114, R115). -/
def byteMax (a b : Byte) : Byte := if a.toNat < b.toNat then b else a

/-- A torque sample taken while the drive is RUNNING, in the four steps of R115. -/
def State.sampleRunning (j : Jar) (m : Measurements) (tau : Byte) (s : State) : State :=
  let peak := byteMax m.peak tau
  let seatsNow := !s.head.seatReached && decide (s.cfg.seatThreshold ≤ tau.toNat)
  let seat := s.head.seatReached || seatsNow
  let theta := if seatsNow then 0 else m.theta
  let t := s.putJar { j with st := .inChuck { m with peak := peak, theta := theta } }
  let u := { t with head := { t.head with seatReached := seat } }
  if s.head.entry.target.toNat ≤ peak.toNat then u.endDrive .torqueReached
  else if seat && decide (s.head.entry.amax.toNat ≤ theta.toNat) then u.endDrive .angleLimit
  else u

/-- A torque sample: by R115 while the drive is RUNNING; the peak alone after it ended torque OK, in the
rest of DRIVE and in HOLD; nothing otherwise (R114, R117). -/
def State.takeSample (tau : Byte) (s : State) : State :=
  match s.chuckJar? with
  | none => s
  | some (j, m) =>
    match s.head.chuck, s.head.phase with
    | .drive, .running => s.sampleRunning j m tau
    | .drive, .ended => s.putJar { j with st := .inChuck { m with peak := byteMax m.peak tau } }
    | .hold, _ => s.putJar { j with st := .inChuck { m with peak := byteMax m.peak tau } }
    | _, _ => s

/-- An angle step: theta rises by one, saturating, while the drive is RUNNING with the seat reached
(R116). -/
def State.takeAngle (s : State) : State :=
  match s.chuckJar? with
  | none => s
  | some (j, m) =>
    if s.head.chuck = .drive ∧ s.head.phase = .running ∧ s.head.seatReached = true then
      s.putJar { j with st := .inChuck { m with theta := byteOf (countTo 255 m.theta.toNat) } }
    else s

/-- The chuck enters LIFT as planned, with the cycle pitch kept (R118). -/
def State.plannedLift (s : State) : State := { s with head := { s.head with chuck := .lift } }

/-- The hold end: over-torque is judged and the chuck enters LIFT. OVER ends the cycle; under OVER_PASS
the over flag is set and the jar goes on (R118, R143). -/
def State.holdEnd (s : State) : State :=
  match s.chuckJar? with
  | none => s.plannedLift
  | some (j, m) =>
    if overTorqueHolds s.cfg s.head.entry m.peak then
      if s.cfg.overPass then (s.putJar { j with overFlag := true }).plannedLift
      else (s.setOwnVerdict j .overTorque m).earlyLift
    else s.plannedLift

/-- What follows DRIVE for a jar that goes on: HOLD, or the hold end when the HOLD length is 0 (R117,
R118). -/
def State.leaveDrive (s : State) : State :=
  if s.head.plan.hold = 0 then s.holdEnd else { s with head := { s.head with chuck := .hold } }

/-- The end of the DRIVE stage: a drive still RUNNING expires; a jar judged good goes on (R117). -/
def State.endDriveStage (s : State) : State :=
  let t := if s.head.phase = .running then s.endDrive .expiry else s
  if t.head.chuck = .drive then t.leaveDrive else t

/-- The engaged jar stands at the HOLD begin distance, the end of the DRIVE stage (R105, R117). -/
def State.atHoldBegin (s : State) : Bool :=
  match s.head.cyclePitch with
  | some p => decide (s.dist p = holdBegin s.cfg s.head.plan)
  | none => false

/-! ### LIFT, return and probe (R119 to R121) -/

/-- The end of LIFT: a record still IN_CHUCK goes to PROBE_WAIT, and the chuck to the pick position
(R119). -/
def State.endLift (s : State) : State :=
  match s.chuckJar? with
  | some (j, m) => (s.putJar { j with st := .probeWait m }).toPick
  | none => s.toPick

/-- One strobe of RETURNING: READY at 0 pitches left (R120). -/
def State.returnStep (s : State) : State :=
  { s with
    head :=
      { s.head with
        returnLeft := s.head.returnLeft - 1
        chuck := if s.head.returnLeft ≤ 1 then .ready else .returning } }

/-- At a strobe: the end of LIFT, planned at distance E + L or early at the first strobe, or a pitch of
RETURNING (R119, R120). -/
def State.vacateChuck (s : State) : State :=
  match s.head.chuck with
  | .lift =>
    match s.head.cyclePitch with
    | none => s.endLift
    | some p => if s.dist p = cycleEnd s.cfg s.head.plan then s.endLift else s
  | .returning => s.returnStep
  | .ready => s
  | .engage => s
  | .flush => s
  | .seat => s
  | .drive => s
  | .hold => s

/-- The stage boundaries of a strobe after ENGAGE start, by the distance of the engaged jar (R105, R110
to R118). -/
def State.stageWork (pins : StrobePins) (s : State) : State :=
  match s.head.cyclePitch with
  | none => s
  | some p =>
    let d := s.dist p
    match s.head.chuck with
    | .engage =>
      if s.head.capFound then (if d = flushBegin s.cfg s.head.plan then s.flushStart p else s)
      else if d = s.cfg.entryOffset then s
      else s.capCheck pins.capInChuck
    | .flush => if d = seatBegin s.cfg s.head.plan then s.seatStart else s.valveFall
    | .seat => if d = driveBegin s.cfg s.head.plan then s.driveStart else s
    | .drive => if d = holdBegin s.cfg s.head.plan then s.endDriveStage else s
    | .hold => if d = liftBegin s.cfg s.head.plan then s.holdEnd else s
    | .lift => s
    | .returning => s
    | .ready => s

/-- The own record in PROBE_WAIT at distance E + W + Q (R121). -/
def State.jarAtProbe? (s : State) : Option Jar :=
  s.track.find? (fun j => (match j.st with | .probeWait _ => true | _ => false)
    && decide (s.dist j.pitch = s.cfg.probeDistance))

/-- The probe of a strobe: the readings are stored and judged (R121, R144, R145). -/
def State.probe (pins : StrobePins) (s : State) : State :=
  match s.jarAtProbe? with
  | none => s
  | some j =>
    match j.st with
    | .probeWait m =>
      s.setOwnVerdict j (probeVerdict s.cfg j.flush pins.rim pins.panel)
        { m with probe := some ⟨pins.rim, pins.panel, deflectionOf pins.rim pins.panel⟩ }
    | _ => s

/-! ### Give-up and abort (R122, R124) -/

/-- Whether the chuck is in a cycle: ENGAGE to LIFT. -/
def Chuck.inCycle : Chuck → Bool
  | .engage => true
  | .flush => true
  | .seat => true
  | .drive => true
  | .hold => true
  | .lift => true
  | .ready => false
  | .returning => false

/-- The give-up with the chuck in ENGAGE to HOLD (R122 steps 1 to 3). -/
def State.giveUpWorking (s : State) : State :=
  let t := match s.chuckJar? with
    | some (j, _) => s.giveBack j
    | none => s
  let u := t.count ctrAborted
  { u with head := { u.head with phase := .idle } }.earlyLift

/-- The cycle given up on HEAD_FAULT or JAM (R122 steps 1 to 3): outputs safe, a record still IN_CHUCK
given back, an abort counted, an early LIFT. A chuck in LIFT whose record has left IN_CHUCK, and a chuck
RETURNING or READY, is not moved. DESIGN CHOICE (log entry 19): in LIFT the drive phase stands as it was, where
R125 says of it only 'absent after the give-up' beside the cycle pitch. -/
def State.giveUpCycle (s : State) : State :=
  match s.head.chuck with
  | .ready => s
  | .returning => s
  | .lift =>
    match s.chuckJar? with
    | some (j, _) => (((s.giveBack j).count ctrAborted).earlyLift)
    | none => s
  | .engage => s.giveUpWorking
  | .flush => s.giveUpWorking
  | .seat => s.giveUpWorking
  | .drive => s.giveUpWorking
  | .hold => s.giveUpWorking

/-- The abort of a run-stop or of entry to FAULT: a cycle in flight is counted, and the head stands READY
with the plan kept (R124, R125). -/
def State.abortCycle (s : State) : State :=
  let t := if s.head.chuck.inCycle then s.count ctrAborted else s
  { t with head := Head.idle s.head.plan }

end Sys2Proof.Machine
end

