-- ==== Sys2Proof/Machine/Control.lean ====
section
/-! DEFINITION. Station control: run-stop, entry to FAULT, withdrawal, START, power-up, autoload, and
the commands POWER_UP, RESET, AUTOLOAD_BLOCK, START_ATTEMPT, RUN_STOP, HEAD_FAULT_JAM and CAP_LOW
(chapter 10). -/

namespace Sys2Proof.Machine

/-! ### Shared ends of a run -/

/-- What a run-stop and entry to FAULT do alike: the cycle is aborted, the track purged, both claim counts
0, the draw list and the gate queue emptied, FLOOD clear, GATE at PASS (R37, R38, R67, R124, R125, R133,
R162). -/
def State.purgeRun (s : State) : State :=
  let t := s.abortCycle
  { t with
    track := []
    claims := ⟨0, 0⟩
    steam := { t.steam with draws := [] }
    gate := ⟨[], false, .pass⟩ }

/-- A run-stop: cause recorded, STANDBY entered, withdraw reason absent, the run purged, the transmit
queue pruned (R100, R171). -/
def State.runStop (cause : StopCause) (s : State) : State :=
  let t := s.purgeRun
  { t with
    ctl := { t.ctl with mode := .standby, stopCause := cause, withdrawReason := none }
    line := t.line.withdrawFrames prunedAtStop }

/-- Entry to FAULT: cause recorded, the run purged, the transmit queue emptied, a send cut off, the line
watcher stopped (R101, R102, R173). DESIGN CHOICE (log entry 26): the quiet time becomes 0, for which the table
of R102 has no column. -/
def State.enterFault (cause : FaultCause) (s : State) : State :=
  let t := s.purgeRun
  { t with
    ctl := { t.ctl with mode := .fault, faultCause := some cause, withdrawReason := none }
    line := ⟨[], none, 0, .stopped, 0⟩ }

/-- The withdrawal, after the cycle is given up: reason recorded, WITHDRAWN entered, own claims given
back, the WITHDRAW queued (R66, R172). -/
def State.withdraw (why : FaultInput) (s : State) : State :=
  let t := s.giveBackClaims
  { t with ctl := { t.ctl with mode := .withdrawn, withdrawReason := some why } }.enqueue
    (withdrawFrame why)

/-! ### START (R169, R170) -/

/-- The capping cycle at START: the plan formed; READY when a cap is sensed or Rt is 0, and otherwise
RETURNING with Rt pitches left (R104, R125). -/
def headAtStart (i : Image) (capInChuck : Bool) : Head :=
  let h := Head.idle (planOf i)
  if capInChuck || decide (i.returnPitches = 0) then h
  else { h with chuck := .returning, returnLeft := i.returnPitches }

/-- The chuck busy count at START: Rt when the chuck begins in RETURNING and 0 when it begins READY (R43). -/
def busyAtStart (i : Image) (capInChuck : Bool) : Nat :=
  if capInChuck || decide (i.returnPitches = 0) then 0 else i.returnPitches

/-- The bank-line unit at START: queue emptied, a frame on the line left to end its send outside the
queue, retry count 0 (R102). -/
def BankLine.atStart (l : BankLine) : BankLine :=
  { l with queue := [], retries := 0, sending := l.sending.map (fun x => { x with detached := true }) }

/-- START, one action: settings taken from the image, every block's run state reset, RUN entered, the
HELLO queued (R170). -/
def State.start (capInChuck : Bool) (s : State) : State :=
  { s with
    ctl :=
      { s.ctl with
        mode := .run
        taken := s.ctl.image
        startRefused := 0
        stopCause := .noStop
        withdrawReason := none }
    clk := { s.clk with c := 0, h := 0, n := 0 }
    track := []
    claims := ⟨0, busyAtStart s.ctl.image capInChuck⟩
    peers := PeerTable.clear
    head := headAtStart s.ctl.image capInChuck
    steam := ⟨[], 0, false⟩
    gate := ⟨[], false, .pass⟩
    line := s.line.atStart }.enqueue (helloFrame s.ctl.image)

/-- A rising RUN_EN: a START attempt in STANDBY, and not taken in any other state (R166, R167 note 3,
R169, R170). JAM found asserted withdraws the station in the same action. -/
def State.startAttempt (capInChuck : Bool) (s : State) : State :=
  match s.ctl.mode with
  | .standby =>
    if s.pins.headFault then s.enterFault .headAtStart
    else if startCheck s.ctl.image = 0 then
      let t := s.start capInChuck
      if s.pins.jam then t.withdraw .jam else t
    else { s with ctl := { s.ctl with startRefused := startCheck s.ctl.image } }
  | .loading => s
  | .run => s
  | .withdrawn => s
  | .fault => s

/-! ### HEAD_FAULT and JAM (R122, R172) -/

/-- The level of a fault input. -/
def Pins.setFault (input : FaultInput) (level : Bool) (p : Pins) : Pins :=
  match input with
  | .headFault => { p with headFault := level }
  | .jam => { p with jam := level }

/-- An assertion in RUN gives up the cycle and withdraws the station; it is ignored in any other state,
and a fall changes the level alone (R122, R167 note 2). -/
def State.takeFaultInput (input : FaultInput) (level : Bool) (s : State) : State :=
  let t := { s with pins := s.pins.setFault input level }
  if level = true ∧ s.ctl.mode = .run then t.giveUpCycle.withdraw input else t

/-! ### Autoload (R165) -/

/-- The start of an autoload: LOADING, image and profile zero, pointer at band 0 part 0, nothing staged,
block 0 next (R139, R165). -/
def State.beginAutoload (s : State) : State :=
  { s with
    ctl := { s.ctl with mode := .loading, image := Image.zero, loadBlock := 0 }
    verdicts := VerdictUnit.zero }

/-- A torque pointer write: bits 3 to 0 the band, bits 5 and 4 the part, a part above 2 taken as 0; the
staged parts are discarded (R137, item 0x38). -/
def VerdictUnit.writePointer (v : Byte) (u : VerdictUnit) : VerdictUnit :=
  let part := (v.extractLsb' 4 2).toNat
  { u with
    band := Fin.ofNat 16 (v.extractLsb' 0 4).toNat
    part := if part ≤ 2 then Fin.ofNat 3 part else 0
    stagedTarget := none
    stagedAmin := none }

/-- The entry that a data write of `v` at part 2 commits: staged parts where present, committed ones
otherwise, and amax raised to the amin so formed (R138). -/
def VerdictUnit.committed (v : Byte) (u : VerdictUnit) : ProfileEntry :=
  let old := u.profile.get u.band
  let amin := u.stagedAmin.getD old.amin
  { target := u.stagedTarget.getD old.target
    amin := amin
    amax := byteMax v amin }

/-- A torque data write: parts 0 and 1 are staged, part 2 commits the entry; the pointer moves on (R137,
R138). -/
def VerdictUnit.writeData (v : Byte) (u : VerdictUnit) : VerdictUnit :=
  match u.part.val with
  | 0 => { u with stagedTarget := some v, part := 1 }
  | 1 => { u with stagedAmin := some v, part := 2 }
  | _ =>
    { profile := u.profile.set u.band.val (u.committed v) u.band.isLt
      band := u.band + 1
      part := 0
      stagedTarget := none
      stagedAmin := none }

/-- The committed part at the pointer, as a data read returns it (R137). -/
def VerdictUnit.dataAt (u : VerdictUnit) : Byte :=
  let e := u.profile.get u.band
  match u.part.val with
  | 0 => e.target
  | 1 => e.amin
  | _ => e.amax

/-- The pointer after a data read: one part on, staged parts discarded (R137). -/
def VerdictUnit.afterRead (u : VerdictUnit) : VerdictUnit :=
  { u with
    band := if u.part = 2 then u.band + 1 else u.band
    part := if u.part = 2 then 0 else u.part + 1
    stagedTarget := none
    stagedAmin := none }

/-- One image byte stored by autoload: bytes 0 to 32 in the image, profile bytes through the torque
pointer (R164, R165). -/
def State.storeByte (at_ : Nat) (v : Byte) (s : State) : State :=
  if h : at_ < 33 then { s with ctl := { s.ctl with image := s.ctl.image.set at_ v h } }
  else { s with verdicts := s.verdicts.writeData v }

/-- The nine bytes of a block stored from byte `first` on (R165). -/
def State.storeBytes (first : Nat) : List Byte → State → State
  | [], s => s
  | v :: rest, s => State.storeBytes (first + 1) rest (s.storeByte first v)

/-- The end of an autoload: outcome recorded, STANDBY entered (R165). -/
def State.endAutoload (outcome : AutoloadOutcome) (s : State) : State :=
  { s with ctl := { s.ctl with mode := .standby, outcome := outcome } }

/-- The memory's answer to the request for the next block, in LOADING (R165). -/
def State.takeBlock (ack : Bool) (data : Vector Byte 9) (s : State) : State :=
  let i := s.ctl.loadBlock
  let t := { s with ctl := { s.ctl with portSilent := false } }
  if ack then
    let u := t.storeBytes (9 * i) data.toList
    if i < 8 then { u with ctl := { u.ctl with loadBlock := i + 1 } } else u.endAutoload .loadOk
  else t.endAutoload (if i = 0 then .noMemory else .shortImage)

/-! ### The commands -/

/-- POWER_UP: every block at its power-up values, for the straps and the first encoder sample (R14, R165).
The levels of the other pins are the outside's and stand. -/
def execPowerUp (straps : Straps) (pair : EncPair) (s : State) : Host.Outcome State Fault Refusal :=
  .next (State.powerUpValues { s.pins with straps := straps } pair s.pending)

/-- RESET: equal in effect to power-up (R14). -/
def execReset (straps : Straps) (pair : EncPair) (s : State) : Host.Outcome State Fault Refusal :=
  .next (State.powerUpValues { s.pins with straps := straps } pair s.pending)

/-- AUTOLOAD_BLOCK: taken while autoload runs; outside LOADING no block is requested (R165). -/
def execAutoloadBlock (ack : Bool) (data : Vector Byte 9) (s : State) : Host.Outcome State Fault Refusal :=
  .next (if s.ctl.mode = .loading then s.takeBlock ack data else s)

/-- START_ATTEMPT: RUN_EN rises (R169). -/
def execStartAttempt (capInChuck : Bool) (s : State) : Host.Outcome State Fault Refusal :=
  .next ({ s with pins := { s.pins with runEn := true } }.startAttempt capInChuck)

/-- RUN_STOP: RUN_EN falls; a run-stop in RUN or WITHDRAWN, ignored in any other state (R167 note 3,
R171). -/
def execRunStop (s : State) : Host.Outcome State Fault Refusal :=
  let t := { s with pins := { s.pins with runEn := false } }
  .next (if s.inRun then t.runStop .runEn else t)

/-- HEAD_FAULT_JAM (R122, R172). -/
def execHeadFaultJam (input : FaultInput) (level : Bool) (s : State) : Host.Outcome State Fault Refusal :=
  .next (s.takeFaultInput input level)

/-- CAP_LOW: the level; the starved standing and the STARVED flag follow it in RUN (R44, R123). -/
def execCapLow (level : Bool) (s : State) : Host.Outcome State Fault Refusal :=
  .next { s with pins := { s.pins with capLow := level } }

end Sys2Proof.Machine
end

