-- ==== Sys2Proof/Machine/BankLine.lean ====
section
/-! DEFINITION. The bank-line unit: line watcher, send side, receive checker, the peer table's handling of
a good frame, and the commands of the bank line (R84 to R103, R70, R71, R75). -/

namespace Sys2Proof.Machine

/-! ### A good frame at the peer table (R70) -/

/-- Whether a stamp is in step with N (R12). -/
def inStep (stamp n : Word) : Bool := stamp - n == 65535 || stamp - n == 0 || stamp - n == 1

/-- Step 4 of R70: skew count 0, last-heard pitch N, and an ABSENT sender LIVE unless the frame is a HELLO
or a WITHDRAW. -/
def State.noteInStep (k : Station) (kind : Kind) (s : State) : State :=
  let p := s.peer k
  let st := match p.st with
    | .absent => if kind = .hello ∨ kind = .withdraw then .absent else .live
    | other => other
  s.putPeer k { p with st := st, skew := 0, lastHeard := some s.clk.n }

/-- Step 5 of R70: the frame goes to its owner by kind. -/
def State.deliver (f : RxFrame) (s : State) : State :=
  match f.kind with
  | .hello => s.takeHello f.sender f.jar f.payA f.payB
  | .claim => s.takeClaim f.sender f.jar f.payA
  | .release => s.takeRelease f.sender f.jar
  | .done => (s.refresh f.sender).takeDone f.sender f.jar f.payA
  | .steam => s.takeSteam f.sender f.jar f.payA f.payB
  | .withdraw => s.takeWithdraw f.sender

/-- Whether a peer is MISMATCHED. -/
def Peer.isMismatched (p : Peer) : Bool :=
  match p.st with
  | .mismatched _ => true
  | _ => false

/-- The peer table takes a good frame in RUN or WITHDRAWN: own number, mismatched sender, step, in step, by
kind, in this order (R70, R71, R75). -/
def State.takeFrame (f : RxFrame) (s : State) : State :=
  if s.inRun then
    if s.cfg.isOwn f.sender then s.enterFault .duplicateId
    else if (s.peer f.sender).isMismatched && f.kind != .hello then s.count ctrBadFrames
    else if inStep f.stamp s.clk.n then (s.noteInStep f.sender f.kind).deliver f
    else s.takeSkewed f.sender
  else s

/-- The receive checker: in RUN and WITHDRAWN a frame that fails a check is discarded and counted once,
and a good frame goes to the peer table; in other states no frame is judged (R89). -/
def State.judgeFrame (bytes : FrameBytes) (s : State) : State :=
  match readFrame? bytes with
  | some f => s.takeFrame f
  | none => if s.inRun then s.count ctrBadFrames else s

/-- A frame of a given kind, good but for its sender field and in step, at the receive checker and the
peer table: what the six TAKEN rows stand for (R70, R89; log entry 6). -/
def State.takeKind (sender : BitVec 4) (kind : Kind) (jar : Word) (payA payB : Byte) (s : State) : State :=
  match stationOf? sender.toNat with
  | some k => s.takeFrame ⟨k, kind, s.clk.n, jar, payA, payB⟩
  | none => if s.inRun then s.count ctrBadFrames else s

/-! ### The line watcher (R88) -/

/-- Quiet time after `elapsed` further recessive bit times (R94). -/
def BankLine.quietAfter (elapsed : Nat) (l : BankLine) : Nat := l.quiet + elapsed

/-- The start of a frame: a ready watcher begins to assemble, a waiting one only after 12 bit times of
quiet; the dominant level resets the quiet time (R88). -/
def BankLine.startFrame (elapsed : Nat) (l : BankLine) : BankLine :=
  match l.watcher with
  | .ready => { l with watcher := .assembling, quiet := 0 }
  | .waiting => { l with watcher := if 12 ≤ l.quietAfter elapsed then .assembling else .waiting, quiet := 0 }
  | .assembling => { l with quiet := 0 }
  | .stopped => l

/-- A malformed frame abandoned: the watcher waits for quiet, and the frame is counted among bad frames in
RUN and WITHDRAWN (R88, R89). -/
def State.abandonFrame (quiet : Nat) (s : State) : State :=
  let t := { s with line := { s.line with watcher := .waiting, quiet := quiet } }
  if s.inRun then t.count ctrBadFrames else t

/-! ### Sending (R94 to R97) -/

/-- The send of the head begins: the frame is loaded with sender, stamp and CRC (R95). -/
def BankLine.load (i : Image) (n : Word) (f : TxFrame) (l : BankLine) : BankLine :=
  { l with
    sending := some ⟨f, loadFrame i.number n f, false, false⟩
    watcher := .assembling
    quiet := 0 }

/-- An attempt: the head is loaded when no send is in progress, the line is quiet, and the quiet time has
reached the station's gap; otherwise the head waits on (R94, R95). In FAULT nothing is sent (R101). -/
def State.attemptSend (elapsed : Nat) (s : State) : State :=
  let q := s.line.quietAfter elapsed
  if s.ctl.mode = .fault ∨ s.line.watcher = .stopped ∨ s.line.watcher = .assembling
      ∨ s.line.sending.isSome = true then s
  else
    match s.line.queue with
    | [] => { s with line := { s.line with quiet := q } }
    | f :: _ =>
      if s.cfg.gap ≤ q then { s with line := s.line.load s.cfg s.clk.n f }
      else { s with line := { s.line with quiet := q } }

/-- The queue without its head; the next frame becomes the head with a retry count of 0 (R93). -/
def BankLine.dropHead (l : BankLine) : BankLine := { l with queue := l.queue.tail, retries := 0 }

/-- A completed send: the frame leaves the queue and is counted, and an own DONE feeds the refresh
collection (R78, R95). After a run-stop the peer table stands as the run left it (R82). -/
def State.completeSend (s : State) : State :=
  match s.line.sending with
  | none => s
  | some x =>
    let l := { s.line with sending := none, watcher := .ready, quiet := 0 }
    let t := { s with line := if x.detached then l else l.dropHead }.count ctrFramesSent
    if s.inRun && x.frame.kind == .done then t.refresh s.cfg.own else t

/-- What a collision leaves of the head: removed when stale (counted) or when its removal was asked for,
dropped when its retry count has passed the limit, and otherwise waiting again (R96 to R100). -/
def State.afterCollision (x : Sending) (s : State) : State :=
  if s.inRun && staleFrame s.cfg s.clk.n x.frame then
    { s with line := s.line.dropHead }.count ctrStaleRemovals
  else if x.doomed then { s with line := s.line.dropHead }
  else
    match s.cfg.retryLimit? with
    | none => s
    | some limit =>
      if limit < s.line.retries then { s with line := s.line.dropHead }.count ctrRetryDrops else s

/-- A collision: the line is released, the collision counted, and the head's retry count raised, holding at
255; a frame left on the line by START is then gone (R96, R97, R102). -/
def State.collide (s : State) : State :=
  match s.line.sending with
  | none => s
  | some x =>
    let t := { s with line := { s.line with sending := none } }.count ctrCollisions
    if x.detached then t
    else { t with line := { t.line with retries := countTo 255 t.line.retries } }.afterCollision x

/-- The stale test of a strobe: every waiting frame that is stale is removed and counted (R98, R99). -/
def State.dropStale (s : State) : State :=
  let gone := staleFrame s.cfg s.clk.n
  { s with line := s.line.removeWaiting gone }.countBy ctrStaleRemovals
    (s.line.waiting.filter gone).length

/-! ### The commands -/

/-- SEND_ATTEMPT (R94, R95). -/
def execSendAttempt (elapsed : Nat) (s : State) : Host.Outcome State Fault Refusal :=
  .next (s.attemptSend elapsed)

/-- SEND_COMPLETE (R95). -/
def execSendComplete (s : State) : Host.Outcome State Fault Refusal := .next s.completeSend

/-- COLLISION (R96). -/
def execCollision (s : State) : Host.Outcome State Fault Refusal := .next s.collide

/-- FRAME_RECEIVED: the watcher completes the frame that it is assembling, and the receive checker judges it.
A frame whose start was not taken is none, in FAULT none is assembled, and a frame heard while this station
sends is its own read-back (R88 to R91). -/
def execFrameReceived (bytes : FrameBytes) (s : State) : Host.Outcome State Fault Refusal :=
  .next
    (if s.ctl.mode ≠ .fault ∧ s.line.watcher = .assembling ∧ s.line.sending = none then
       { s with line := { s.line with watcher := .ready, quiet := 0 } }.judgeFrame bytes
     else s)

/-- FRAME_ABANDONED: the line has stayed recessive for more than 12 bit times inside a frame (R88). -/
def execFrameAbandoned (elapsed : Nat) (s : State) : Host.Outcome State Fault Refusal :=
  .next
    (if s.line.watcher = .assembling ∧ s.line.sending = none ∧ 12 < s.line.quietAfter elapsed then
       s.abandonFrame (s.line.quietAfter elapsed)
     else s)

/-- MALFORMED_FRAME: a first byte other than 0xA5, or a stop bit read dominant, in the frame being
assembled (R88). -/
def execMalformedFrame (s : State) : Host.Outcome State Fault Refusal :=
  .next (if s.line.watcher = .assembling ∧ s.line.sending = none then s.abandonFrame 0 else s)

/-- FRAME_START (R88). -/
def execFrameStart (elapsed : Nat) (s : State) : Host.Outcome State Fault Refusal :=
  .next { s with line := s.line.startFrame elapsed }

/-- HELLO_TAKEN (R72 to R74). -/
def execHelloTaken (sender : BitVec 4) (jar : Word) (payA payB : Byte) (s : State) :
    Host.Outcome State Fault Refusal :=
  .next (s.takeKind sender .hello jar payA payB)

/-- CLAIM_TAKEN (R52 to R54). -/
def execClaimTaken (sender : BitVec 4) (jar : Word) (payA payB : Byte) (s : State) :
    Host.Outcome State Fault Refusal :=
  .next (s.takeKind sender .claim jar payA payB)

/-- RELEASE_TAKEN (R56); a RELEASE's payloads are 0 (R57). -/
def execReleaseTaken (sender : BitVec 4) (jar : Word) (s : State) : Host.Outcome State Fault Refusal :=
  .next (s.takeKind sender .release jar 0 0)

/-- DONE_TAKEN (R78, R149). -/
def execDoneTaken (sender : BitVec 4) (jar : Word) (payA payB : Byte) (s : State) :
    Host.Outcome State Fault Refusal :=
  .next (s.takeKind sender .done jar payA payB)

/-- STEAM_TAKEN (R127). -/
def execSteamTaken (sender : BitVec 4) (jar : Word) (payA payB : Byte) (s : State) :
    Host.Outcome State Fault Refusal :=
  .next (s.takeKind sender .steam jar payA payB)

/-- WITHDRAW_TAKEN (R80); its jar field and payload B are 0 (R85, R87). -/
def execWithdrawTaken (sender : BitVec 4) (payA : Byte) (s : State) : Host.Outcome State Fault Refusal :=
  .next (s.takeKind sender .withdraw 0 payA 0)

end Sys2Proof.Machine
end

