-- ==== Sys2Proof/Machine/Line.lean ====
section
/-! DEFINITION. Line time: the encoder step, the pitch strobe with the work of every block at it, and the
commands ENCODER_STEP, PITCH_STROBE, LAPSE, VALVE_CLOSE, TORQUE_SAMPLE, ANGLE_STEP, DRIVE_EXPIRY,
RETURN_END and DRAW_END (chapter 1; R25 to R32). -/

namespace Sys2Proof.Machine

/-! ### Encoder steps (R1 to R4) -/

/-- The up step of the cycle of R1: (0,0), (1,0), (1,1), (0,1). -/
def EncPair.upNext : EncPair → EncPair
  | ⟨false, false⟩ => ⟨true, false⟩
  | ⟨true, false⟩ => ⟨true, true⟩
  | ⟨true, true⟩ => ⟨false, true⟩
  | ⟨false, true⟩ => ⟨false, false⟩

/-- What a sample pair means against the phase state: up, down, or no step when it is equal or both phases
changed (R1). -/
inductive StepKind where
  | up
  | down
  | noStep
deriving DecidableEq, Repr

/-- The direction of a step (R1). -/
def stepKind (phase pair : EncPair) : StepKind :=
  if pair = EncPair.upNext phase then .up
  else if phase = EncPair.upNext pair then .down
  else .noStep

/-! ### The pitch strobe (R8) -/

/-- A new record at distance 0 (R25). -/
def newJar (i : Image) (p : Word) (t : Byte) : Jar :=
  { pitch := p
    temp := t
    band := bandOf i t
    st := .openJar
    reopened := false
    conflict := false
    nearFlag := false
    overFlag := false
    flush := .noFlush }

/-- N advances by one (R8 step 1). -/
def State.advanceN (s : State) : State := { s with clk := { s.clk with n := s.clk.n + 1 } }

/-- The track at a strobe: the records below Rd at the new N, and the record sighted, at the young end
(R25, R29, R32, R34). -/
def State.ageTrack (pins : StrobePins) (s : State) : State :=
  let kept := s.track.filter (fun j => decide (s.dist j.pitch < s.cfg.retireDistance))
  if pins.eye then
    { s with track := kept ++ [newJar s.cfg s.clk.n pins.temp] }.count ctrJarsSeen
  else { s with track := kept }

/-- The pitch strobe: N advances, and the blocks act on it. The gate decision reads the queue as it stood
before the strobe (R159); creation and retirement, the lapse checks, ENGAGE start or the fall of the busy
count, and the stale removals come before the claim test (R44); the end of LIFT comes before ENGAGE start
and before the probe, and the probe before the exit decision (R119, R155). Log entry 7 has the order of
what these rules leave. -/
def State.strobe (pins : StrobePins) (s : State) : State :=
  ((((((((((((s.advanceN).gateDecision).ageTrack pins).lapseChecks).vacateChuck).engageOrFall pins).dropStale
    ).endDraws).claimTest).stageWork pins).probe pins).exitDecision)

/-! ### Steps taken into the counts (R2 to R4) -/

/-- An up step in RUN or WITHDRAWN: H advances with C when they are equal, and a new H that meets the edge
condition is a strobe; otherwise C alone recovers (R3, R5). -/
def State.upStep (pins : StrobePins) (s : State) : State :=
  if s.clk.c = s.clk.h then
    let t := { s with clk := { s.clk with c := s.clk.c + 1, h := s.clk.h + 1 } }
    if strobeAt s.cfg (s.clk.h + 1) then t.strobe pins else t
  else { s with clk := { s.clk with c := s.clk.c + 1 } }

/-- A down step in RUN or WITHDRAWN: C moves back, and a reverse beyond the allowance is a run-stop with
cause REVERSE (R4). -/
def State.downStep (s : State) : State :=
  let t := { s with clk := { s.clk with c := s.clk.c - 1 } }
  if s.cfg.allowance < (s.clk.h - (s.clk.c - 1)).toNat then t.runStop .reverse else t

/-- One encoder sample: the pair becomes the phase state in every station state, and a step is taken into
the counts in RUN and WITHDRAWN (R1, R2). -/
def State.encoderSample (pair : EncPair) (pins : StrobePins) (s : State) : State :=
  let t := { s with clk := { s.clk with phase := pair } }
  if s.inRun then
    match stepKind s.clk.phase pair with
    | .up => t.upStep pins
    | .down => t.downStep
    | .noStep => t
  else t

/-! ### The commands -/

/-- ENCODER_STEP (R1 to R5); a strobe that the step makes is taken as part of it (R3). -/
def execEncoderStep (pair : EncPair) (pins : StrobePins) (s : State) : Host.Outcome State Fault Refusal :=
  .next (s.encoderSample pair pins)

/-- PITCH_STROBE: the strobe itself, in RUN and WITHDRAWN (R8; log entry 2). -/
def execPitchStrobe (pins : StrobePins) (s : State) : Host.Outcome State Fault Refusal :=
  .next (if s.inRun then s.strobe pins else s)

/-- LAPSE: the promise of one jar falls due, in RUN and WITHDRAWN (R59; log entry 8). -/
def execLapse (jar : Word) (s : State) : Host.Outcome State Fault Refusal :=
  .next (if s.inRun then s.lapseOne jar else s)

/-- VALVE_CLOSE: the last of the valve pitches passes in FLUSH, and STEAM_V closes (R112; log entry 8). -/
def execValveClose (s : State) : Host.Outcome State Fault Refusal :=
  .next (if s.ctl.mode = .run ∧ s.head.chuck = .flush ∧ s.head.valveLeft = 1 then s.valveFall else s)

/-- TORQUE_SAMPLE, in RUN (R114, R115). -/
def execTorqueSample (tau : Byte) (s : State) : Host.Outcome State Fault Refusal :=
  .next (if s.ctl.mode = .run then s.takeSample tau else s)

/-- ANGLE_STEP, in RUN (R116). -/
def execAngleStep (s : State) : Host.Outcome State Fault Refusal :=
  .next (if s.ctl.mode = .run then s.takeAngle else s)

/-- DRIVE_EXPIRY: the DRIVE stage ends with the drive still RUNNING, the engaged jar at the HOLD begin
distance (R117, R118; log entry 8). -/
def execDriveExpiry (s : State) : Host.Outcome State Fault Refusal :=
  .next
    (if s.ctl.mode = .run ∧ s.head.chuck = .drive ∧ s.head.phase = .running ∧ s.atHoldBegin = true then
       s.endDriveStage
     else s)

/-- RETURN_END: the last of the return pitches passes and the chuck enters READY (R120; log entry 8). -/
def execReturnEnd (s : State) : Host.Outcome State Fault Refusal :=
  .next (if s.inRun ∧ s.head.chuck = .returning ∧ s.head.returnLeft = 1 then s.returnStep else s)

/-- DRAW_END: the draw of one station, when its age has reached its length, is removed, in RUN and
WITHDRAWN (R131; log entry 8). -/
def execDrawEnd (station : BitVec 4) (s : State) : Host.Outcome State Fault Refusal :=
  .next
    (if s.inRun then
       { s with
         steam :=
           { s.steam with
             draws := s.steam.draws.filter (fun d =>
               !(decide (stationNum d.station = station.toNat) && d.endsAt s.clk.n)) } }
     else s)

end Sys2Proof.Machine
end

