-- ==== Sys2Proof/Machine/Flags.lean ====
section
/-! DEFINITION. The outputs and the status flags as the station shows them: output levels by station and
chuck state (R107, R174), and the bytes of the status items (R175). -/

namespace Sys2Proof.Machine

/-! ### Outputs (R107, R159, R174) -/

/-- CHUCK_DN asserted: in RUN, with the chuck down on a jar. In ENGAGE it follows the cap checks (R107). -/
def State.chuckDn (s : State) : Bool :=
  decide (s.ctl.mode = .run) &&
    match s.head.chuck with
    | .engage => s.head.capFound
    | .flush => true
    | .seat => true
    | .drive => true
    | .hold => true
    | .lift => false
    | .returning => false
    | .ready => false

/-- STEAM_V open: in RUN, in FLUSH, while valve pitches are left (R107). -/
def State.steamV (s : State) : Bool :=
  decide (s.ctl.mode = .run) && decide (s.head.chuck = .flush) && decide (0 < s.head.valveLeft)

/-- SPINDLE on: in RUN, in DRIVE and HOLD. A drive end that sets a verdict leaves DRIVE at once (R107,
R117). -/
def State.spindle (s : State) : Bool :=
  decide (s.ctl.mode = .run) && (decide (s.head.chuck = .drive) || decide (s.head.chuck = .hold))

/-- GATE: the gate decision on the gate-role station in RUN and WITHDRAWN, PASS anywhere else (R154,
R174). -/
def State.gatePin (s : State) : Disposition :=
  if s.inRun && s.cfg.gateRole then s.gate.output else .pass

/-- FAULT_LAMP on: in WITHDRAWN and FAULT (R174). -/
def State.faultLamp (s : State) : Bool := decide (s.ctl.mode = .withdrawn) || decide (s.ctl.mode = .fault)

/-- STARVED: CAP_LOW asserted in RUN (R123). -/
def State.starved (s : State) : Bool := decide (s.ctl.mode = .run) && s.pins.capLow

/-! ### Status items (R175) -/

/-- Item 0x00: station state, autoload outcome, run-stop cause. -/
def State.statusState (s : State) : Byte :=
  byteOf (s.ctl.mode.code + 16 * outcomeCode s.ctl.outcome + 64 * s.ctl.stopCause.code)

/-- Item 0x01: the number of the failing check, 0 when START_REFUSED is clear. -/
def State.statusRefused (s : State) : Byte := byteOf s.ctl.startRefused

/-- Item 0x02: the flags and the withdraw reason. -/
def State.statusFlags (s : State) : Byte :=
  flagBit 0 s.peers.gateConflict ||| flagBit 1 s.peers.gateShort ||| flagBit 2 s.starved
    ||| flagBit 3 s.gate.flood ||| flagBit 4 s.port.accessRefused
    ||| byteOf (32 * ((s.ctl.withdrawReason.map withdrawCode).getD 0))

/-- Item 0x03: the fault cause. -/
def State.statusFault (s : State) : Byte := byteOf ((s.ctl.faultCause.map FaultCause.code).getD 0)

/-- Item 0x38: the torque pointer, band in bits 3 to 0 and part in bits 5 and 4. -/
def VerdictUnit.pointerByte (u : VerdictUnit) : Byte := byteOf (u.band.val + 16 * u.part.val)

end Sys2Proof.Machine
end

