-- ==== Sys2Proof/Machine/Service.lean ====
section
/-! DEFINITION. The service port: items, views, transactions, commands CLEAR and RELOAD, and the rows of
the service port (chapter 11). -/

namespace Sys2Proof.Machine

/-! ### Two-byte items (R176) -/

/-- The two-byte value whose high byte an item holds: N at 0x04, counter i at 0x80 + 2i (R175, R180). -/
def State.highItem? (s : State) (item : Byte) : Option Word :=
  if item = 0x04 then some s.clk.n
  else if h : 0x80 ≤ item.toNat ∧ item.toNat ≤ 0xBB ∧ item.toNat % 2 = 0 then
    some (s.counters.get ⟨(item.toNat - 0x80) / 2, by omega⟩)
  else none

/-- The two-byte value whose low byte an item holds. -/
def State.lowItem? (s : State) (item : Byte) : Option Word :=
  if item = 0x05 then some s.clk.n
  else if h : 0x80 ≤ item.toNat ∧ item.toNat ≤ 0xBB ∧ item.toNat % 2 = 1 then
    some (s.counters.get ⟨(item.toNat - 0x80) / 2, by omega⟩)
  else none

/-- The byte a low-byte item returns: the latched one when the matching high byte was the read just
before, and the current one otherwise (R176). -/
def State.lowByteRead (s : State) (item : Byte) (w : Word) : Byte :=
  match s.port.latch with
  | some (at_, v) => if at_ = item then v else loByte w
  | none => loByte w

/-! ### Views (R177) -/

/-- The 13 bytes of a peer record in the peer view (R83, R177). -/
def peerBytes (own : Bool) (p : Peer) : List Byte :=
  let fact (f : HelloFacts → Byte) : Byte := (p.facts.map f).getD 0
  [ byteOf p.st.code ||| flagBit 7 own,
    (match p.st with
      | .mismatched why => byteOf why.code
      | _ => 0),
    flagBit 0 p.facts.isSome,
    fact HelloFacts.entry,
    fact HelloFacts.exit,
    fact (fun f => byteOf (f.pitchBit.toNat + 16 * f.edge.toNat)),
    fact (fun f => byteOf f.steam.toNat ||| flagBit 7 f.gate),
    byteOf p.lapses,
    byteOf p.skew,
    flagBit 0 p.lastHeard.isSome,
    hiByte (p.lastHeard.getD 0),
    loByte (p.lastHeard.getD 0),
    (match p.st with
      | .parked r => r
      | _ => 0) ]

/-- The measurements of a record, present in IN_CHUCK, PROBE_WAIT and an own DONE (R19). -/
def JarState.measurements? : JarState → Option Measurements
  | .inChuck m => some m
  | .probeWait m => some m
  | .done _ _ _ m => m
  | .openJar => none
  | .heldPeer _ _ _ => none
  | .claimed => none

/-- A two-byte field of a view. DESIGN CHOICE (log entry 31): the high byte first, where R177 says only
'2 bytes'. -/
def wordBytes (w : Word) : List Byte := [hiByte w, loByte w]

/-- A probe field in two bytes, 0xFFFF when absent (R177). -/
def micronBytes (x : Option Micron) : List Byte :=
  match x with
  | some v => wordBytes (v.setWidth 16)
  | none => [0xFF, 0xFF]

/-- The claimant byte and the promise pitch bytes of a record (R19, R177). -/
def claimantBytes (i : Image) (st : JarState) : List Byte :=
  match st with
  | .heldPeer k promise _ => byteOf (stationNum k) :: wordBytes promise
  | .claimed => [byteOf i.number, 0xFF, 0xFF]
  | .openJar => [0, 0xFF, 0xFF]
  | .inChuck _ => [0, 0xFF, 0xFF]
  | .probeWait _ => [0, 0xFF, 0xFF]
  | .done _ _ _ _ => [0, 0xFF, 0xFF]

/-- The verdict code, source and disposition bytes of a record (R177). -/
def verdictBytes (st : JarState) : List Byte :=
  match st with
  | .done v src disp _ => [byteOf v.code, byteOf src.code, byteOf disp.code]
  | .openJar => [0xFF, 0, 0xFF]
  | .heldPeer _ _ _ => [0xFF, 0, 0xFF]
  | .claimed => [0xFF, 0, 0xFF]
  | .inChuck _ => [0xFF, 0, 0xFF]
  | .probeWait _ => [0xFF, 0, 0xFF]

/-- The 21 bytes of a record in the track snapshot (R40, R177). -/
def jarBytes (i : Image) (n : Word) (j : Jar) : List Byte :=
  let m := j.st.measurements?
  let p := m.bind Measurements.probe
  wordBytes j.pitch
    ++ [byteOf (distance n j.pitch), j.temp, (j.band.map (fun b => byteOf b.val)).getD 0xFF, byteOf j.st.code]
    ++ claimantBytes i j.st
    ++ [flagBit 0 j.reopened ||| flagBit 1 j.conflict ||| flagBit 2 j.nearFlag ||| flagBit 3 j.overFlag
          ||| byteOf (16 * j.flush.code) ||| flagBit 6 m.isSome,
        (m.map Measurements.peak).getD 0, (m.map Measurements.theta).getD 0]
    ++ micronBytes (p.map ProbeReading.rim) ++ micronBytes (p.map ProbeReading.panel)
    ++ micronBytes (p.bind ProbeReading.deflection)
    ++ verdictBytes j.st

/-- The peer view of a station number (R83, R177). -/
def State.takePeerView (k : Station) (s : State) : View := ⟨peerBytes (s.cfg.isOwn k) (s.peer k), 0⟩

/-- The track snapshot: record count, N, and the records oldest first (R40, R177). -/
def State.takeSnapshot (s : State) : View :=
  ⟨byteOf s.track.length :: wordBytes s.clk.n ++ s.track.flatMap (jarBytes s.cfg s.clk.n), 0⟩

/-- The bytes of a gate queue entry (R177). -/
def gateBytes (i : Image) (n : Word) (e : GateEntry) : List Byte :=
  wordBytes e.pitch ++ [byteOf e.verdict.code, byteOf (gateDistance i n e.pitch)]

/-- The gate-queue view: entry count, FLOOD, N, and the entries in order; an empty queue on a station
without gate role (R163, R177). -/
def State.takeGateView (s : State) : View :=
  let q := if s.cfg.gateRole then s.gate.queue else []
  ⟨[byteOf q.length, flagBit 0 s.gate.flood] ++ wordBytes s.clk.n ++ q.flatMap (gateBytes s.cfg s.clk.n), 0⟩

/-- The next byte of a view: 0 past the end (R177). -/
def View.current (v : View) : Byte := v.bytes.getD v.index 0

/-- A view after one read: the index advances and holds at the end (R177). -/
def View.advance (v : View) : View := { v with index := min v.bytes.length (v.index + 1) }

/-! ### Reads (R175, R176) -/

/-- The length or count that an item 0x3A to 0x3F shows (R175). -/
def Plan.itemByte (p : Plan) (item : Nat) : Byte :=
  match item with
  | 0x3A => byteOf p.engage
  | 0x3B => byteOf p.flush
  | 0x3C => byteOf p.drive
  | 0x3D => byteOf p.hold
  | 0x3E => byteOf p.total
  | 0x3F => byteOf p.retries
  | _ => 0

/-- The byte that a read of an item returns; 0 for an unnumbered or write-only item (R175). -/
def State.itemByte (s : State) (item : Byte) : Byte :=
  match s.highItem? item, s.lowItem? item with
  | some w, _ => hiByte w
  | none, some w => s.lowByteRead item w
  | none, none =>
    match item.toNat with
    | 0x00 => s.statusState
    | 0x01 => s.statusRefused
    | 0x02 => s.statusFlags
    | 0x03 => s.statusFault
    | 0x38 => s.verdicts.pointerByte
    | 0x39 => s.verdicts.dataAt
    | 0xC1 => s.port.peerView.current
    | 0xC5 => s.port.trackView.current
    | 0xC7 => s.port.gateView.current
    | n =>
      if h : 0x10 ≤ n ∧ n ≤ 0x30 then s.ctl.image[n - 0x10]'(by omega) else s.head.plan.itemByte n

/-- The items that do not advance the pointer (R175). -/
def streaming (item : Byte) : Bool := item == 0x39 || item == 0xC1 || item == 0xC5 || item == 0xC7

/-- The item pointer after an accepted access of an item, wrapping from 255 to 0 (R175). -/
def nextItem (item : Byte) : Byte := if streaming item then item else item + 1

/-- What a read of an item changes beside the pointer: the torque pointer, or a view's index (R137,
R177). -/
def State.readEffect (item : Byte) (s : State) : State :=
  match item.toNat with
  | 0x39 => { s with verdicts := s.verdicts.afterRead }
  | 0xC1 => { s with port := { s.port with peerView := s.port.peerView.advance } }
  | 0xC5 => { s with port := { s.port with trackView := s.port.trackView.advance } }
  | 0xC7 => { s with port := { s.port with gateView := s.port.gateView.advance } }
  | _ => s

/-- The latch after a read of an item: the low byte of a two-byte item whose high byte was read, with the
item that will return it; gone after any other read (R176). -/
def State.latchAfter (s : State) (item : Byte) : Option (Byte × Byte) :=
  (s.highItem? item).map (fun w => (item + 1, loByte w))

/-- One read of the item at the pointer: the byte is returned, its effect taken, the pointer advanced
(R175, R176). -/
def State.readAtPointer (s : State) : State :=
  let item := s.port.pointer
  let t := s.readEffect item
  { t with
    port :=
      { t.port with
        dataOut := s.itemByte item
        latch := s.latchAfter item
        pointer := nextItem item } }

/-! ### Writes (R175, R178, R179) -/

/-- CLEAR: every counter to 0 and nothing else (R179, R180). -/
def State.clearCounters (s : State) : State := { s with counters := Vector.replicate 30 0 }

/-- RELOAD: autoload begins. What status shows as the outcome until it ends is a free value (R165, R179;
log entry 1). -/
def State.reload (s : State) : State :=
  { s.beginAutoload with ctl := { s.beginAutoload.ctl with outcome := Config.outcomeDuringReload } }

/-- A data byte for an item, as the item takes it: the new state when it is accepted, none when it is
refused (R175, R177, R178, R179). -/
def State.acceptData? (item value : Byte) (s : State) : Option State :=
  if s.ctl.mode = .fault then none
  else
    match item.toNat with
    | 0x38 => if s.ctl.mode = .standby then some { s with verdicts := s.verdicts.writePointer value } else none
    | 0x39 => if s.ctl.mode = .standby then some { s with verdicts := s.verdicts.writeData value } else none
    | 0x40 =>
      if value = 1 then some s.clearCounters
      else if value = 2 ∧ s.ctl.mode = .standby then some s.reload
      else none
    | 0xC0 =>
      match stationOf? value.toNat with
      | some k => some { s with port := { s.port with peerView := s.takePeerView k } }
      | none => none
    | 0xC4 => some { s with port := { s.port with trackView := s.takeSnapshot } }
    | 0xC6 => some { s with port := { s.port with gateView := s.takeGateView } }
    | n =>
      if h : 0x10 ≤ n ∧ n ≤ 0x30 then
        if s.ctl.mode = .standby then
          some { s with ctl := { s.ctl with image := s.ctl.image.set (n - 0x10) value (by omega) } }
        else none
      else none

/-- A data byte for the item at the pointer: accepted, it is acknowledged, clears ACCESS_REFUSED and
advances the pointer; refused, it is not acknowledged, sets ACCESS_REFUSED and changes nothing else
(R175). -/
def State.dataByte (value : Byte) (s : State) : State :=
  match s.acceptData? s.port.pointer value with
  | some t =>
    { t with port := { t.port with accessRefused := false, acked := true, pointer := nextItem s.port.pointer } }
  | none => { s with port := { s.port with accessRefused := true, acked := false } }

/-! ### Transactions (R175) -/

/-- The target address the port answers: 0x3A plus the SV_ADR strap (R175). -/
def State.portAddress (s : State) : BitVec 7 := 0x3A#7 + s.pins.straps.svAdr.setWidth 7

/-- Whether the port acknowledges an address: its own, except from power-up or RESET with LOAD_DIS clear
until block 0 is answered (R175). -/
def State.answers (target : BitVec 7) (s : State) : Bool := target == s.portAddress && !s.ctl.portSilent

/-- A transaction that this port does not answer: it ends any write transaction of this port, and has no
other effect (R175). -/
def State.notAddressed (s : State) : State := { s with port := { s.port with writing := false, acked := false } }

/-- The address and the item number of a write transaction (R175). -/
def State.beginWrite (target : BitVec 7) (item : Byte) (s : State) : State :=
  if s.answers target then { s with port := { s.port with pointer := item, writing := true, acked := true } }
  else s.notAddressed

/-- A write transaction of one item: address, item number, one data byte (R175). -/
def State.writeItem (target : BitVec 7) (item value : Byte) (s : State) : State :=
  if s.answers target then (s.beginWrite target item).dataByte value else s.notAddressed

/-- One read at the pointer, in a read transaction (R175). -/
def State.readNext (target : BitVec 7) (s : State) : State :=
  if s.answers target then
    { s with port := { s.port with writing := false, acked := true } }.readAtPointer
  else s.notAddressed

/-- A read of one item: the item number written, then one read (R175). -/
def State.readItem (target : BitVec 7) (item : Byte) (s : State) : State :=
  if s.answers target then (s.beginWrite target item).readNext target else s.notAddressed

/-- The item of a view's data (R175). -/
def viewItemNumber : ViewItem → Byte
  | .peer => 0xC1
  | .track => 0xC5
  | .gateQueue => 0xC7

/-! ### The commands -/

/-- ITEM_NUMBER_WRITE (R175). -/
def execItemNumberWrite (target : BitVec 7) (item : Byte) (s : State) : Host.Outcome State Fault Refusal :=
  .next (s.beginWrite target item)

/-- SERVICE_WRITE: one further data byte of the write transaction in progress, for the item at the pointer
(R175, R178). Without such a transaction no byte is addressed to this port. -/
def execServiceWrite (value : Byte) (s : State) : Host.Outcome State Fault Refusal :=
  .next (if s.port.writing then s.dataByte value else s)

/-- TORQUE_POINTER_WRITE (R137, R178). -/
def execTorquePointerWrite (target : BitVec 7) (value : Byte) (s : State) : Host.Outcome State Fault Refusal :=
  .next (s.writeItem target 0x38 value)

/-- TORQUE_DATA_WRITE (R137, R138, R178). -/
def execTorqueDataWrite (target : BitVec 7) (value : Byte) (s : State) : Host.Outcome State Fault Refusal :=
  .next (s.writeItem target 0x39 value)

/-- TORQUE_DATA_READ (R137, R178). -/
def execTorqueDataRead (target : BitVec 7) (s : State) : Host.Outcome State Fault Refusal :=
  .next (s.readItem target 0x39)

/-- HIGH_BYTE_READ: one read at the item pointer, where a high byte latches its low byte (R175, R176; log
entry 3). -/
def execHighByteRead (target : BitVec 7) (s : State) : Host.Outcome State Fault Refusal :=
  .next (s.readNext target)

/-- CLEAR (R179). -/
def execClear (target : BitVec 7) (s : State) : Host.Outcome State Fault Refusal :=
  .next (s.writeItem target 0x40 1)

/-- RELOAD (R165, R179). -/
def execReload (target : BitVec 7) (s : State) : Host.Outcome State Fault Refusal :=
  .next (s.writeItem target 0x40 2)

/-- PEER_VIEW_SELECT (R83, R177). -/
def execPeerViewSelect (target : BitVec 7) (value : Byte) (s : State) : Host.Outcome State Fault Refusal :=
  .next (s.writeItem target 0xC0 value)

/-- SNAPSHOT_REQUEST (R40, R177). -/
def execSnapshotRequest (target : BitVec 7) (value : Byte) (s : State) : Host.Outcome State Fault Refusal :=
  .next (s.writeItem target 0xC4 value)

/-- GATE_QUEUE_VIEW_REQUEST (R163, R177). -/
def execGateQueueViewRequest (target : BitVec 7) (value : Byte) (s : State) :
    Host.Outcome State Fault Refusal :=
  .next (s.writeItem target 0xC6 value)

/-- VIEW_DATA_READ (R177). -/
def execViewDataRead (target : BitVec 7) (view : ViewItem) (s : State) : Host.Outcome State Fault Refusal :=
  .next (s.readItem target (viewItemNumber view))

end Sys2Proof.Machine
end

