-- ==== Sys2Proof/Machine/Dispatch.lean ====
section
/-! DEFINITION. One arm per command. -/

namespace Sys2Proof.Machine

/-- The effect of a command on the station; the queue of waiting commands is left as it stands. -/
def exec (i : Instr) (s : State) : Host.Outcome State Fault Refusal :=
  match i with
  | .powerUp straps pair => Sys2Proof.Machine.execPowerUp straps pair s
  | .resetPin straps pair => Sys2Proof.Machine.execReset straps pair s
  | .autoloadBlock ack data => Sys2Proof.Machine.execAutoloadBlock ack data s
  | .encoderStep pair pins => Sys2Proof.Machine.execEncoderStep pair pins s
  | .pitchStrobe pins => Sys2Proof.Machine.execPitchStrobe pins s
  | .lapse jar => Sys2Proof.Machine.execLapse jar s
  | .valveClose => Sys2Proof.Machine.execValveClose s
  | .torqueSample tau => Sys2Proof.Machine.execTorqueSample tau s
  | .angleStep => Sys2Proof.Machine.execAngleStep s
  | .driveExpiry => Sys2Proof.Machine.execDriveExpiry s
  | .returnEnd => Sys2Proof.Machine.execReturnEnd s
  | .drawEnd station => Sys2Proof.Machine.execDrawEnd station s
  | .sendAttempt elapsed => Sys2Proof.Machine.execSendAttempt elapsed s
  | .sendComplete => Sys2Proof.Machine.execSendComplete s
  | .collision => Sys2Proof.Machine.execCollision s
  | .frameReceived bytes => Sys2Proof.Machine.execFrameReceived bytes s
  | .frameAbandoned elapsed => Sys2Proof.Machine.execFrameAbandoned elapsed s
  | .helloTaken sender jar payA payB => Sys2Proof.Machine.execHelloTaken sender jar payA payB s
  | .claimTaken sender jar payA payB => Sys2Proof.Machine.execClaimTaken sender jar payA payB s
  | .releaseTaken sender jar => Sys2Proof.Machine.execReleaseTaken sender jar s
  | .doneTaken sender jar payA payB => Sys2Proof.Machine.execDoneTaken sender jar payA payB s
  | .steamTaken sender jar payA payB => Sys2Proof.Machine.execSteamTaken sender jar payA payB s
  | .withdrawTaken sender payA => Sys2Proof.Machine.execWithdrawTaken sender payA s
  | .startAttempt capInChuck => Sys2Proof.Machine.execStartAttempt capInChuck s
  | .runStop => Sys2Proof.Machine.execRunStop s
  | .headFaultJam input level => Sys2Proof.Machine.execHeadFaultJam input level s
  | .capLow level => Sys2Proof.Machine.execCapLow level s
  | .itemNumberWrite target item => Sys2Proof.Machine.execItemNumberWrite target item s
  | .serviceWrite value => Sys2Proof.Machine.execServiceWrite value s
  | .torquePointerWrite target value => Sys2Proof.Machine.execTorquePointerWrite target value s
  | .torqueDataWrite target value => Sys2Proof.Machine.execTorqueDataWrite target value s
  | .torqueDataRead target => Sys2Proof.Machine.execTorqueDataRead target s
  | .highByteRead target => Sys2Proof.Machine.execHighByteRead target s
  | .clear target => Sys2Proof.Machine.execClear target s
  | .reload target => Sys2Proof.Machine.execReload target s
  | .peerViewSelect target value => Sys2Proof.Machine.execPeerViewSelect target value s
  | .snapshotRequest target value => Sys2Proof.Machine.execSnapshotRequest target value s
  | .gateQueueViewRequest target value => Sys2Proof.Machine.execGateQueueViewRequest target value s
  | .viewDataRead target view => Sys2Proof.Machine.execViewDataRead target view s
  | .malformedFrame => Sys2Proof.Machine.execMalformedFrame s
  | .frameStart elapsed => Sys2Proof.Machine.execFrameStart elapsed s

end Sys2Proof.Machine
end

