-- ==== Sys2Proof/Safety.lean ====
section
/-! DEFINITION. What counts as a sound station: the laws that the spec states of the whole machine, each a
decidable predicate of one state, and the words in which the obligations speak. -/

namespace Sys2Proof.Machine

/-! ### Laws of a state -/

/-- In a run the settings taken have passed the START check, and the stage plan is theirs (R13, R104,
R168). -/
abbrev State.ConfigLaw (s : State) : Prop :=
  s.inRun = true → startCheck s.cfg = 0 ∧ s.head.plan = planOf s.cfg

/-- Through a run H - C, reckoned mod 65536, stays within the reverse allowance (R3). -/
abbrev State.AllowanceLaw (s : State) : Prop :=
  s.inRun = true → (s.clk.h - s.clk.c).toNat ≤ s.cfg.allowance

/-- Outside a run the station holds nothing of a run: no record, no claim count, no cycle, no draw, no gate
entry (R37, R38, R67, R125, R134, R162). -/
abbrev State.IdleLaw (s : State) : Prop :=
  s.inRun = false →
    s.track = [] ∧ s.claims = ⟨0, 0⟩ ∧ s.head = Head.idle s.head.plan ∧ s.steam.draws = []
      ∧ s.gate = ⟨[], false, .pass⟩

/-- The transmit queue holds at most 8 frames, and in FAULT nothing waits, nothing is on the line, and the
watcher is stopped (R92, R101, R102). -/
abbrev State.LineLaw (s : State) : Prop :=
  s.line.queue.length ≤ 8 ∧
    (s.ctl.mode = .fault → s.line.queue = [] ∧ s.line.sending = none ∧ s.line.watcher = .stopped)

/-- Every committed profile entry has amax at or above amin (R138). -/
abbrev State.ProfileLaw (s : State) : Prop :=
  ∀ b : Fin 16, (s.verdicts.profile.get b).amin.toNat ≤ (s.verdicts.profile.get b).amax.toNat

/-- The draw list holds no two entries of one station (R126). -/
abbrev State.DrawLaw (s : State) : Prop := (s.steam.draws.map Draw.station).Nodup

/-- The track stands oldest first with strictly falling distances, each below Rd, and Rd is at most 63 in a
run (R31, R33, R34). -/
abbrev State.TrackLaw (s : State) : Prop :=
  s.track.Pairwise (fun x y => s.dist y.pitch < s.dist x.pitch)
    ∧ (∀ j ∈ s.track, s.dist j.pitch < s.cfg.retireDistance ∧ s.dist j.pitch < 63)

/-- The open-claim count is the number of CLAIMED records, at most Cm, each short of E, and there is none
outside RUN (R42, R66). -/
abbrev State.ClaimLaw (s : State) : Prop :=
  s.claims.openClaims = s.track.countP Jar.isClaimed
    ∧ s.claims.openClaims ≤ s.cfg.commitLimit
    ∧ (∀ j ∈ s.track, j.isClaimed = true → s.dist j.pitch < s.cfg.entryOffset ∧ s.ctl.mode = .run)

/-- Any two own records in CLAIMED or IN_CHUCK are at least L + Rt pitches apart (R49). -/
abbrev State.SpacingLaw (s : State) : Prop :=
  s.track.Pairwise (fun x y =>
    (x.isClaimed || x.isInChuck) = true → (y.isClaimed || y.isInChuck) = true →
      s.head.plan.total + s.cfg.returnPitches ≤ apart (s.dist x.pitch) (s.dist y.pitch))

/-- Where the engaged jar may stand while the chuck is in a stage: at or past E, and short of the stage's
end; in ENGAGE with no cap found, the strobes of the retries left end short of FLUSH (R105, R110). -/
def State.stagePlace (s : State) (d : Nat) : Bool :=
  decide (s.cfg.entryOffset ≤ d) &&
    match s.head.chuck with
    | .engage => decide (d < flushBegin s.cfg s.head.plan)
        && (s.head.capFound || decide (d + s.head.retriesLeft + 1 < flushBegin s.cfg s.head.plan))
    | .flush => decide (d < seatBegin s.cfg s.head.plan)
    | .seat => decide (d < driveBegin s.cfg s.head.plan)
    | .drive => decide (d < holdBegin s.cfg s.head.plan)
    | .hold => decide (d < liftBegin s.cfg s.head.plan)
    | .lift => decide (d < cycleEnd s.cfg s.head.plan)
    | .returning => false
    | .ready => false

/-- With a cycle pitch the record of that pitch is in the track, the chuck stands in the stage of its place,
and the station is in RUN; without one the chuck stands in LIFT, RETURNING or READY (R105, R106, R108). -/
def State.cyclePlace (s : State) : Bool :=
  match s.head.cyclePitch with
  | some p => (s.findJar p).isSome && s.stagePlace (s.dist p) && decide (s.ctl.mode = .run)
  | none => decide (s.head.chuck ∈ [Chuck.lift, Chuck.returning, Chuck.ready])

/-- The IN_CHUCK record is the one of the cycle pitch, and it stands where the chuck's stage has it
(R108). -/
abbrev State.ChuckLaw (s : State) : Prop :=
  (∀ j ∈ s.track, j.isInChuck = true ↔ s.head.cyclePitch = some j.pitch) ∧ s.cyclePlace = true

/-- The laws on which the laws of the track, the claims and the chuck rest together. -/
abbrev State.CycleLaw (s : State) : Prop :=
  s.ConfigLaw ∧ s.TrackLaw ∧ s.ClaimLaw ∧ s.SpacingLaw ∧ s.ChuckLaw

/-- Every record in HELD_PEER names a claimant that is LIVE (R62). -/
abbrev State.HeldLaw (s : State) : Prop :=
  ∀ j ∈ s.track, ∀ k : Station, j.heldBy k = true → (s.peer k).isLive = true

/-- A peer's lapse count under a park limit: 0 in ABSENT, below it in LIVE, equal to it in PARKED (R76,
R82). -/
def Peer.lapsesOk (limit : Nat) (p : Peer) : Bool :=
  match p.st with
  | .absent => decide (p.lapses = 0)
  | .live => decide (p.lapses < limit)
  | .parked _ => decide (p.lapses = limit)
  | .mismatched _ => true
  | .withdrawn => true

/-- Every peer's lapse count fits its state (R76). -/
abbrev State.ParkLaw (s : State) : Prop := ∀ k : Station, (s.peer k).lapsesOk s.cfg.parkLimit = true

/-- The gate queue: at most 32 entries, strictly ascending in distance to the gate, each at distance 1 to G;
FLOOD only over a queue that is not empty; nothing without gate role (R154, R157, R160). A frame may set a
verdict on the record at distance 0, so the bound here is G where R154 speaks of G - 1 (DEDUCED, log
entry 22). -/
abbrev State.GateLaw (s : State) : Prop :=
  s.gate.queue.length ≤ 32
    ∧ s.gate.queue.Pairwise
        (fun x y => gateDistance s.cfg s.clk.n x.pitch < gateDistance s.cfg s.clk.n y.pitch)
    ∧ (∀ e ∈ s.gate.queue, 1 ≤ gateDistance s.cfg s.clk.n e.pitch
        ∧ gateDistance s.cfg s.clk.n e.pitch ≤ s.cfg.gateOffset)
    ∧ (s.gate.flood = true → s.gate.queue ≠ [])
    ∧ (s.cfg.gateRole = false → s.gate = ⟨[], false, .pass⟩)

/-! ### Words of the obligations -/

/-- The record `j` stands in the track between `pre` and `post`, alone under its pitch. -/
abbrev State.holds (s : State) (pre : List Jar) (j : Jar) (post : List Jar) : Prop :=
  s.track = pre ++ j :: post ∧ ∀ x ∈ pre ++ post, x.pitch ≠ j.pitch

/-- The track holds no record of a pitch (R35). -/
abbrev State.lacks (s : State) (p : Word) : Prop := ∀ x ∈ s.track, x.pitch ≠ p

/-- The up steps of the table of R1, from a phase state to the sample pair. -/
def upTable : List (EncPair × EncPair) :=
  [(⟨false, false⟩, ⟨true, false⟩), (⟨true, false⟩, ⟨true, true⟩), (⟨true, true⟩, ⟨false, true⟩),
    (⟨false, true⟩, ⟨false, false⟩)]

/-- The strobe condition of R5 on a new high-water count. -/
abbrev strobeCondition (i : Image) (h : Nat) : Prop :=
  (i.edge.toNat = 0 ∧ h % 2 ^ (i.pitchBit.toNat + 1) = 2 ^ i.pitchBit.toNat)
    ∨ (i.edge.toNat = 1 ∧ h % 2 ^ (i.pitchBit.toNat + 1) = 0)
    ∨ (i.edge.toNat = 2 ∧ h % 2 ^ i.pitchBit.toNat = 0)

/-- The four-bit sender field of a station. -/
def senderCode (k : Station) : BitVec 4 := BitVec.ofNat 4 (stationNum k)

/-- The station takes frames of the peer `k`: it is in RUN or WITHDRAWN, and `k` is not its own number. -/
abbrev State.hears (s : State) (k : Station) : Prop := s.inRun = true ∧ s.cfg.isOwn k = false

/-- A peer record after a good, in-step CLAIM, RELEASE, DONE or STEAM at pitch `n`: skew count 0, last-heard
pitch `n`, and LIVE when it was ABSENT (R70 step 4). -/
def Peer.heard (n : Word) (p : Peer) : Peer :=
  { p with st := if p.st = .absent then .live else p.st, skew := 0, lastHeard := some n }

/-- A peer is MISMATCHED, for whatever reason. -/
def Peer.setApart (p : Peer) : Prop := ∃ why : MismatchReason, p.st = .mismatched why

/-- The service port answers `target`: the address is 0x3A plus the strap, outside the silent span (R175). -/
abbrev State.addressed (s : State) (target : BitVec 7) : Prop :=
  target.toNat = 0x3A + s.pins.straps.svAdr.toNat ∧ s.ctl.portSilent = false

/-- The port after an accepted data byte of a write of `item` that leaves the pointer at `next`. -/
def Port.accepted (next : Byte) (p : Port) : Port :=
  { p with pointer := next, writing := true, acked := true, accessRefused := false }

/-- The port after a refused data byte of a write of `item` (R175). -/
def Port.refused (item : Byte) (p : Port) : Port :=
  { p with pointer := item, writing := true, acked := false, accessRefused := true }

/-- A strobe scene with one record and nothing else to do: a run on a station without gate role, one record
`j` below Rd at the new N, no draw, an empty transmit queue, a dark eye. -/
abbrev State.strobeScene (s : State) (pins : StrobePins) (j : Jar) : Prop :=
  s.ctl.mode = .run ∧ s.cfg.gateRole = false ∧ s.track = [j] ∧ s.steam.draws = []
    ∧ s.line.queue = [] ∧ pins.eye = false ∧ distance (s.clk.n + 1) j.pitch < s.cfg.retireDistance

/-- A strobe scene with one record, in RUN or WITHDRAWN, with gate role or without: one record `j` below Rd at
the new N, no draw, an empty transmit queue, a dark eye, and nothing in the gate queue of a gate-role station. -/
abbrev State.headScene (s : State) (pins : StrobePins) (j : Jar) : Prop :=
  s.inRun = true ∧ (s.cfg.gateRole = true → s.gate = ⟨[], false, .pass⟩) ∧ s.track = [j]
    ∧ s.steam.draws = [] ∧ s.line.queue = [] ∧ pins.eye = false
    ∧ distance (s.clk.n + 1) j.pitch < s.cfg.retireDistance

/-- What every strobe of a scene does: N advances and the busy count falls (R8, R43). -/
def State.tick (s : State) : State :=
  { s with clk := { s.clk with n := s.clk.n + 1 }, claims := { s.claims with busy := s.claims.busy - 1 } }

/-- The levels of CHUCK_DN, STEAM_V and SPINDLE, asserted, open and on (R107). -/
def State.levels (s : State) : Bool × Bool × Bool := (s.chuckDn, s.steamV, s.spindle)

/-- A record given back after NO_CAP, HEAD_FAULT or JAM: OPEN, reopened, its own results discarded (R24). -/
def Jar.givenBack (j : Jar) : Jar :=
  { j with st := .openJar, reopened := true, nearFlag := false, overFlag := false, flush := .noFlush }

/-- The own CLAIMED records of a track reopened, as at entry to WITHDRAWN (R66). -/
def claimsReopened (l : List Jar) : List Jar :=
  l.map (fun x => if x.isClaimed then { x with st := .openJar, reopened := true } else x)

/-- The records held for a peer reopened, as where it leaves LIVE (R62). -/
def holdsReopened (k : Station) (l : List Jar) : List Jar :=
  l.map (fun x => if x.heldBy k then { x with st := .openJar, reopened := true } else x)

/-! ### The bytes of the views, by the table of R177 -/

/-- A two-byte field of a view, high byte first: the model's choice, log entry 31. -/
def twoBytes (x : Nat) : List Byte := [BitVec.ofNat 8 (x / 256), BitVec.ofNat 8 x]

/-- The peer view's 13 bytes for the record `p`, `own` for this station's own number (R177). -/
def peerRow (own : Bool) (p : Peer) : List Byte :=
  let state : Nat := match p.st with
    | .absent => 0 | .live => 1 | .parked _ => 2 | .mismatched _ => 3 | .withdrawn => 4
  let reason : Byte := match p.st with
    | .mismatched .pitchDef => 1 | .mismatched .steamLimit => 2 | .mismatched .order => 3
    | .mismatched .skew => 4 | .absent => 0 | .live => 0 | .parked _ => 0 | .withdrawn => 0
  let refresh : Byte := match p.st with
    | .parked r => r | .absent => 0 | .live => 0 | .mismatched _ => 0 | .withdrawn => 0
  let facts : List Byte := match p.facts with
    | some f =>
      [1, f.entry, f.exit, BitVec.ofNat 8 (f.pitchBit.toNat + 16 * f.edge.toNat),
        BitVec.ofNat 8 (f.steam.toNat + 128 * f.gate.toNat)]
    | none => [0, 0, 0, 0, 0]
  let heard : List Byte := match p.lastHeard with
    | some n => 1 :: twoBytes n.toNat
    | none => [0, 0, 0]
  [BitVec.ofNat 8 (state + 128 * own.toNat), reason] ++ facts
    ++ [BitVec.ofNat 8 p.lapses, BitVec.ofNat 8 p.skew] ++ heard ++ [refresh]

/-- The track snapshot's 21 bytes for a record, under a station number and a copied N (R177). -/
def trackRow (number : Nat) (n : Word) (j : Jar) : List Byte :=
  let state : Byte := match j.st with
    | .openJar => 0 | .heldPeer _ _ _ => 1 | .claimed => 2 | .inChuck _ => 3 | .probeWait _ => 4
    | .done _ _ _ _ => 5
  let claimant : List Byte := match j.st with
    | .heldPeer k promise _ => BitVec.ofNat 8 (stationNum k) :: twoBytes promise.toNat
    | .claimed => [BitVec.ofNat 8 number, 0xFF, 0xFF]
    | .openJar => [0, 0xFF, 0xFF]
    | .inChuck _ => [0, 0xFF, 0xFF]
    | .probeWait _ => [0, 0xFF, 0xFF]
    | .done _ _ _ _ => [0, 0xFF, 0xFF]
  let measured : Option Measurements := match j.st with
    | .inChuck m => some m
    | .probeWait m => some m
    | .done _ _ _ m => m
    | .openJar => none
    | .heldPeer _ _ _ => none
    | .claimed => none
  let flush : Nat := match j.flush with
    | .noFlush => 0 | .full => 1 | .short => 2
  let flags : Nat := j.reopened.toNat + 2 * j.conflict.toNat + 4 * j.nearFlag.toNat + 8 * j.overFlag.toNat
    + 16 * flush + 64 * measured.isSome.toNat
  let drive : List Byte := match measured with
    | some m => [m.peak, m.theta]
    | none => [0, 0]
  let probe : List Byte := match measured with
    | some ⟨_, _, some ⟨r, q, some d⟩⟩ => twoBytes r.toNat ++ twoBytes q.toNat ++ twoBytes d.toNat
    | some ⟨_, _, some ⟨r, q, none⟩⟩ => twoBytes r.toNat ++ twoBytes q.toNat ++ [0xFF, 0xFF]
    | some ⟨_, _, none⟩ => [0xFF, 0xFF, 0xFF, 0xFF, 0xFF, 0xFF]
    | none => [0xFF, 0xFF, 0xFF, 0xFF, 0xFF, 0xFF]
  let judged : List Byte := match j.st with
    | .done v src disp _ =>
      [BitVec.ofNat 8 v.code,
        (match src with | .station k => BitVec.ofNat 8 (stationNum k) | .gate => 9),
        (match disp with | .pass => 0 | .reject => 1)]
    | .openJar => [0xFF, 0, 0xFF]
    | .heldPeer _ _ _ => [0xFF, 0, 0xFF]
    | .claimed => [0xFF, 0, 0xFF]
    | .inChuck _ => [0xFF, 0, 0xFF]
    | .probeWait _ => [0xFF, 0, 0xFF]
  twoBytes j.pitch.toNat ++ [BitVec.ofNat 8 (n - j.pitch).toNat, j.temp,
      (match j.band with | some b => BitVec.ofNat 8 b.val | none => 0xFF), state]
    ++ claimant ++ [BitVec.ofNat 8 flags] ++ drive ++ probe ++ judged

/-- The gate-queue view's 4 bytes for an entry, under a gate offset and a copied N (R177). -/
def gateRow (offset : Nat) (n : Word) (e : GateEntry) : List Byte :=
  twoBytes e.pitch.toNat
    ++ [BitVec.ofNat 8 e.verdict.code, BitVec.ofNat 8 (e.pitch + BitVec.ofNat 16 offset - n).toNat]

/-- The two counts that a chuck going to the pick position takes: RETURNING with Rt left, or READY (R106
note 2). -/
def Head.atPick (rt : Nat) (h : Head) : Head :=
  { h with
    cyclePitch := none
    chuck := if rt = 0 then .ready else .returning
    returnLeft := rt }

end Sys2Proof.Machine
end

