-- ==== Sys2Proof/Certificates/Slice0/Obligations.lean ====
section
/-! DEFINITION. The statements for the provers: what the commands do to the station, in the terms of
spec/, and the laws that every step keeps. -/

section

open Sys2Proof Sys2Proof.Machine

/-! ### The queue of commands, power-up, and the pitch clock -/

/-- A step runs the command at the front of the queue on the state with the rest of the queue. With no
command waiting the block idles: the model's choice, log entry 9. -/
def Obligations.StepRunsFrontCommand : Prop :=
  (∀ (c : Instr) (rest : List Instr) (s : State), s.pending = c :: rest →
    step s = exec c { s with pending := rest })
  ∧ ∀ s : State, s.pending = [] → step s = .next s

/-- POWER_UP and RESET are one effect, and give every block its power-up values (R14, R39, R67, R82, R102,
R125, R134, R139, R153, R162, R165, R175, R180). The input pins stand as the outside holds them, and an
autoload in progress shows NOT_RUN: the model's readings, log entries 10 and 14. The quiet time 0 of the
line is the model's choice, log entry 26. -/
def Obligations.PowerUpAndReset : Prop :=
  ∀ (straps : Straps) (pair : EncPair) (s : State), ∃ t : State,
    exec (.powerUp straps pair) s = .next t ∧ exec (.resetPin straps pair) s = .next t
      ∧ t.ctl.mode = (if straps.loadDis then .standby else .loading)
      ∧ t.ctl.portSilent = !straps.loadDis ∧ t.ctl.loadBlock = 0
      ∧ (∀ i : Fin 33, t.ctl.image.get i = 0)
      ∧ t.ctl.outcome = .notRun ∧ t.ctl.startRefused = 0 ∧ t.ctl.stopCause = .noStop
      ∧ t.ctl.withdrawReason = none ∧ t.ctl.faultCause = none
      ∧ t.clk = ⟨pair, 0, 0, 0⟩ ∧ t.track = [] ∧ t.claims = ⟨0, 0⟩
      ∧ (∀ k : Station, t.peer k = ⟨.absent, none, 0, 0, none⟩)
      ∧ t.peers.gateConflict = false ∧ t.peers.gateShort = false
      ∧ t.line = ⟨[], none, 0, .waiting, 0⟩
      ∧ t.head.chuck = .ready ∧ t.head.cyclePitch = none ∧ t.head.phase = .idle
      ∧ t.head.plan = ⟨0, 0, 0, 0, 0, 0⟩
      ∧ t.steam = ⟨[], 0, false⟩
      ∧ (∀ b : Fin 16, t.verdicts.profile.get b = ⟨0, 0, 0⟩)
      ∧ t.verdicts.band = 0 ∧ t.verdicts.part = 0
      ∧ t.verdicts.stagedTarget = none ∧ t.verdicts.stagedAmin = none
      ∧ t.gate = ⟨[], false, .pass⟩
      ∧ t.port.pointer = 0 ∧ t.port.accessRefused = false
      ∧ t.port.peerView.bytes = [] ∧ t.port.trackView.bytes = [] ∧ t.port.gateView.bytes = []
      ∧ (∀ i : Fin 30, t.counters.get i = 0)
      ∧ t.pins = { s.pins with straps := straps } ∧ t.pending = s.pending

/-- One encoder sample (R1 to R5, R16, R37, R171). Outside RUN and WITHDRAWN it moves the phase state alone.
In them an up step of the table of R1 recovers C toward H, or advances H with C, and the new H is a strobe
under the condition of the edge; a down step moves C back, and beyond the allowance the run stops with cause
REVERSE; a pair equal to the phase state, or that differs from it in both phases, is no step. What the idle
head of a run-stop holds beyond the table of R125 is the model's choice, log entry 19. -/
def Obligations.EncoderSteps : Prop :=
  (∀ (pair : EncPair) (pins : StrobePins) (s : State), s.inRun = false →
      exec (.encoderStep pair pins) s = .next { s with clk := { s.clk with phase := pair } })
  ∧ (∀ (pair : EncPair) (pins : StrobePins) (s : State), s.inRun = true →
      (((s.clk.phase, pair) ∈ upTable →
        (s.clk.c ≠ s.clk.h →
          exec (.encoderStep pair pins) s
            = .next { s with clk := { s.clk with phase := pair, c := s.clk.c + 1 } })
        ∧ (s.clk.c = s.clk.h → ¬ strobeCondition s.cfg (s.clk.h + 1).toNat →
          exec (.encoderStep pair pins) s
            = .next { s with clk := { s.clk with phase := pair, c := s.clk.c + 1, h := s.clk.h + 1 } })
        ∧ (s.clk.c = s.clk.h → strobeCondition s.cfg (s.clk.h + 1).toNat →
          exec (.encoderStep pair pins) s
            = exec (.pitchStrobe pins)
                { s with clk := { s.clk with phase := pair, c := s.clk.c + 1, h := s.clk.h + 1 } }))
      ∧ ((s.clk.phase, pair) ∉ upTable → (pair, s.clk.phase) ∉ upTable →
          exec (.encoderStep pair pins) s = .next { s with clk := { s.clk with phase := pair } })))
  ∧ ∀ (pair : EncPair) (pins : StrobePins) (s : State), s.inRun = true → (pair, s.clk.phase) ∈ upTable →
      ((s.clk.h - (s.clk.c - 1)).toNat ≤ s.cfg.allowance →
        exec (.encoderStep pair pins) s
          = .next { s with clk := { s.clk with phase := pair, c := s.clk.c - 1 } })
      ∧ (s.cfg.allowance < (s.clk.h - (s.clk.c - 1)).toNat →
        ∃ t : State, exec (.encoderStep pair pins) s = .next t
          ∧ t.ctl = { s.ctl with mode := .standby, stopCause := .reverse, withdrawReason := none }
          ∧ t.clk = { s.clk with phase := pair, c := s.clk.c - 1 }
          ∧ t.track = [] ∧ t.claims = ⟨0, 0⟩ ∧ t.steam.draws = [] ∧ t.gate = ⟨[], false, .pass⟩
          ∧ t.head = Head.idle s.head.plan ∧ t.peers = s.peers
          ∧ t.line = s.line.withdrawFrames prunedAtStop
          ∧ t.pins = s.pins ∧ t.verdicts = s.verdicts ∧ t.port = s.port ∧ t.pending = s.pending)

/-! ### The pitch strobe: clock and track -/

/-- A strobe in RUN or WITHDRAWN advances N by one, retires the records that reach Rd, joins the record
sighted at the young end, and keeps the pitch, temperature and band of every other record and their order;
the rest of the station that no rule of a strobe names is unchanged. In any other state it has no effect
(R8, R25, R28, R29, R32, R34). -/
def Obligations.StrobeAdvancesTrack : Prop :=
  ∀ (pins : StrobePins) (s : State), s.TrackLaw →
    (s.inRun = true → ∃ t : State, exec (.pitchStrobe pins) s = .next t
      ∧ t.clk = { s.clk with n := s.clk.n + 1 }
      ∧ t.track.map (fun j => (j.pitch, j.temp, j.band))
          = (s.track.filter (fun j =>
                decide (distance (s.clk.n + 1) j.pitch < s.cfg.retireDistance))).map
              (fun j => (j.pitch, j.temp, j.band))
            ++ (if pins.eye then [(s.clk.n + 1, pins.temp, bandOf s.cfg pins.temp)] else [])
      ∧ t.ctl = s.ctl ∧ t.pins = s.pins ∧ t.verdicts = s.verdicts ∧ t.port = s.port
      ∧ t.pending = s.pending ∧ t.head.plan = s.head.plan ∧ t.line.sending = s.line.sending
      ∧ t.line.watcher = s.line.watcher ∧ t.peers.gateConflict = s.peers.gateConflict
      ∧ t.peers.gateShort = s.peers.gateShort)
    ∧ (s.inRun = false → exec (.pitchStrobe pins) s = .next s)

/-- The record that an active eye makes: OPEN at the new N, with the temperature sampled and its band by the
band rule, every flag clear, and one more jar seen (R10, R25, R26, R135). -/
def Obligations.StrobeSightsJar : Prop :=
  ∀ (pins : StrobePins) (s : State), s.inRun = true → s.ConfigLaw → s.TrackLaw → pins.eye = true →
    ∃ (t : State) (j : Jar), exec (.pitchStrobe pins) s = .next t
      ∧ t.track.getLast? = some j
      ∧ j.pitch = s.clk.n + 1 ∧ j.temp = pins.temp ∧ j.st = .openJar ∧ j.reopened = false
      ∧ j.conflict = false ∧ j.nearFlag = false ∧ j.overFlag = false ∧ j.flush = .noFlush
      ∧ (pins.temp.toNat = 0 ∨ pins.temp.toNat = 255 → j.band = none)
      ∧ (pins.temp.toNat ≠ 0 → pins.temp.toNat ≠ 255 → ∃ b : Fin 16, j.band = some b ∧
          (pins.temp.toNat ≤ s.cfg.tempBase → b.val = 0)
          ∧ (s.cfg.tempBase < pins.temp.toNat →
              b.val = min 15 ((pins.temp.toNat - s.cfg.tempBase) / s.cfg.bandWidth)))
      ∧ t.counters.get ctrJarsSeen = satAdd (s.counters.get ctrJarsSeen) 1

/-! ### The pitch strobe: one jar through the head -/

/-- The claim test of one record in the range E - A to E - 1: it is claimed exactly when the state, profile,
share, commitment, spacing and slot tests hold and CAP_LOW is clear; a record that is passed over is not
marked (R44 to R51). The slot test holds here, since the scene's queue is empty. That the claim itself leaves
the busy count as it stands is the model's choice, log entry 29. -/
def Obligations.StrobeClaims : Prop :=
  ∀ (pins : StrobePins) (s : State) (j : Jar) (b : Fin 16), s.strobeScene pins j →
    s.head.cyclePitch = none → s.head.chuck = .ready → j.band = some b → j.st = .openJar →
    s.cfg.entryOffset - s.cfg.claimLead ≤ distance (s.clk.n + 1) j.pitch →
    distance (s.clk.n + 1) j.pitch < s.cfg.entryOffset →
    exec (.pitchStrobe pins) s = .next
      (if s.pins.capLow = false
          ∧ (s.verdicts.profile.get b).target ≠ 0
          ∧ (s.cfg.share.getLsbD ((j.pitch.toNat + s.cfg.sharePhase) % 8) = true
              ∨ (∀ k : Station, s.cfg.number < stationNum k → (s.peer k).isLive = false)
              ∨ j.reopened = true)
          ∧ s.claims.openClaims < s.cfg.commitLimit
          ∧ s.claims.busy - 1 ≤ s.cfg.entryOffset - distance (s.clk.n + 1) j.pitch then
        { s.tick with
          track := [{ j with st := .claimed }]
          claims := ⟨s.claims.openClaims + 1, s.claims.busy - 1⟩
          line := { s.line with queue :=
            [⟨.claim, j.pitch, byteOf (s.cfg.entryOffset + s.cfg.window + s.cfg.probeOffset + 1),
              byteOf b.val⟩] } }.count ctrClaimsMade
      else s.tick)

/-- The cap checks. ENGAGE starts on the CLAIMED record at E and makes its first cap check in the same
action: the cap found, a re-pick, NO_CAP with the jar given back and a RELEASE queued, or the abandon as
ALREADY_CAPPED. While the pick is retried, each later strobe of ENGAGE makes the check again (R43, R57, R108,
R109, R110). -/
def Obligations.StrobeEngages : Prop :=
  (∀ (pins : StrobePins) (s : State) (j : Jar) (b : Fin 16), s.strobeScene pins j →
      s.head.cyclePitch = none → s.head.chuck = .ready → j.band = some b → j.st = .claimed →
      distance (s.clk.n + 1) j.pitch = s.cfg.entryOffset → 1 ≤ s.head.plan.engage →
      let engaged : Head :=
        { s.head with
          chuck := .engage, cyclePitch := some j.pitch, capFound := false
          retriesLeft := s.head.plan.retries, phase := .idle, seatReached := false
          entry := s.verdicts.profile.get b }
      let begun : State :=
        { s with
          clk := { s.clk with n := s.clk.n + 1 }
          track := [{ j with st := .inChuck ⟨0, 0, none⟩ }]
          claims := ⟨s.claims.openClaims - 1, s.head.plan.total + s.cfg.returnPitches⟩
          head := engaged }.count ctrCyclesStarted
      (pins.jarCapped = false → pins.capInChuck = true →
        exec (.pitchStrobe pins) s = .next { begun with head := { engaged with capFound := true } })
      ∧ (pins.jarCapped = false → pins.capInChuck = false → 0 < s.head.plan.retries →
        exec (.pitchStrobe pins) s
          = .next { begun with head := { engaged with retriesLeft := s.head.plan.retries - 1 } })
      ∧ (pins.jarCapped = false → pins.capInChuck = false → s.head.plan.retries = 0 →
        exec (.pitchStrobe pins) s
          = .next
              ({ begun with
                track := [{ j with
                  st := .openJar, reopened := true, nearFlag := false, overFlag := false,
                  flush := .noFlush }]
                line := { s.line with queue := [⟨.release, j.pitch, 0, 0⟩] }
                head := engaged.atPick s.cfg.returnPitches }.count ctrNoCap))
      ∧ (pins.jarCapped = true →
        exec (.pitchStrobe pins) s
          = .next
              ({ begun with
                track := [{ j with
                  st := .openJar, nearFlag := false, overFlag := false, flush := .noFlush }]
                head := { engaged with chuck := .lift, cyclePitch := none, valveLeft := 0 } }.count
                ctrAlreadyCapped)))
  ∧ ∀ (pins : StrobePins) (s : State) (j : Jar) (m : Measurements), s.strobeScene pins j →
      s.head.cyclePitch = some j.pitch → s.head.chuck = .engage → s.head.capFound = false →
      j.st = .inChuck m → s.cfg.entryOffset < distance (s.clk.n + 1) j.pitch →
      (pins.capInChuck = true →
        exec (.pitchStrobe pins) s = .next { s.tick with head := { s.head with capFound := true } })
      ∧ (pins.capInChuck = false → 0 < s.head.retriesLeft →
        exec (.pitchStrobe pins) s
          = .next { s.tick with head := { s.head with retriesLeft := s.head.retriesLeft - 1 } })
      ∧ (pins.capInChuck = false → s.head.retriesLeft = 0 →
        exec (.pitchStrobe pins) s
          = .next
              ({ s.tick with
                track := [{ j with
                  st := .openJar, reopened := true, nearFlag := false, overFlag := false,
                  flush := .noFlush }]
                line := { s.line with queue := [⟨.release, j.pitch, 0, 0⟩] }
                head := s.head.atPick s.cfg.returnPitches }.count ctrNoCap))

/-- FLUSH start at E + le: the count of other draws in progress against S, the fairness yield, the own
entry, the STEAM, the flush kind and the valve, with CHUCK_DN asserted and STEAM_V open while valve pitches
are left (R107, R111, R112, R128, R129, R130). -/
def Obligations.StrobeStartsFlush : Prop :=
  ∀ (pins : StrobePins) (s : State) (j : Jar) (m : Measurements),
    s.ctl.mode = .run → s.cfg.gateRole = false → s.track = [j] → s.line.queue = [] → pins.eye = false →
    distance (s.clk.n + 1) j.pitch < s.cfg.retireDistance →
    s.head.cyclePitch = some j.pitch → s.head.chuck = .engage → s.head.capFound = true →
    j.st = .inChuck m → distance (s.clk.n + 1) j.pitch = flushBegin s.cfg s.head.plan →
    let counted := (s.steam.draws.filter (fun d =>
        (decide (distance (s.clk.n + 1) d.start < d.length.toNat)
          || decide (distance (s.clk.n + 1) d.start = 65535)) && d.station != s.cfg.own)).length
    let kept := (s.steam.draws.filter (fun d =>
        decide (distance (s.clk.n + 1) d.start ≠ d.length.toNat))).filter
          (fun d => d.station != s.cfg.own)
    let short := s.cfg.steamLimit ≤ counted
      ∨ (0 < s.cfg.fairness ∧ s.cfg.fairness ≤ s.steam.fullRun ∧ s.steam.shortHeard = true)
    let full : State :=
      { s.tick with
        track := [{ j with flush := .full }]
        steam :=
          { draws := kept ++ [⟨s.cfg.own, s.clk.n + 1, byteOf s.head.plan.flush⟩]
            fullRun := min 15 (s.steam.fullRun + 1)
            shortHeard := s.steam.shortHeard }
        line := { s.line with queue := [⟨.steam, s.clk.n + 1, byteOf s.head.plan.flush, 0⟩] }
        head := { s.head with chuck := .flush, valveLeft := s.head.plan.flush } }
    let halved : State :=
      State.count ctrShortFlushes { s.tick with
        track := [{ j with flush := .short }]
        steam :=
          { draws := kept ++ [⟨s.cfg.own, s.clk.n + 1, byteOf ((s.head.plan.flush + 1) / 2)⟩]
            fullRun := 0
            shortHeard := false }
        line := { s.line with queue :=
          [⟨.steam, s.clk.n + 1, byteOf ((s.head.plan.flush + 1) / 2), 1⟩] }
        head := { s.head with chuck := .flush, valveLeft := (s.head.plan.flush + 1) / 2 } }
    (¬ short → exec (.pitchStrobe pins) s = .next full
      ∧ full.levels = (true, decide (0 < s.head.plan.flush), false))
    ∧ (short → exec (.pitchStrobe pins) s = .next halved
      ∧ halved.levels = (true, decide (0 < (s.head.plan.flush + 1) / 2), false))

/-- The later stages of a cycle, each at the strobe of its distance: the valve counts down in FLUSH; SEAT;
DRIVE with the drive RUNNING and its measurements cleared; a drive still RUNNING at the HOLD begin distance
expires, as torque OK with NEAR or as UNDER; HOLD, or the hold end at once where the HOLD length is 0; LIFT
when no over-torque holds, and the verdict OVER when it does; between these strobes the head stands. In RUN
the outputs are those of the chuck's state, and elsewhere they are safe; FAULT_LAMP is on in WITHDRAWN and
FAULT (R105, R107, R112, R113, R114, R117, R118, R141, R143, R174). -/
def Obligations.StrobeRunsStages : Prop :=
  (∀ t : State,
    (t.ctl.mode = .run → t.levels = match t.head.chuck with
      | .ready => (false, false, false)
      | .engage => (t.head.capFound, false, false)
      | .flush => (true, decide (0 < t.head.valveLeft), false)
      | .seat => (true, false, false)
      | .drive => (true, false, true)
      | .hold => (true, false, true)
      | .lift => (false, false, false)
      | .returning => (false, false, false))
    ∧ (t.ctl.mode ≠ .run → t.levels = (false, false, false))
    ∧ (t.faultLamp = true ↔ t.ctl.mode = .withdrawn ∨ t.ctl.mode = .fault))
  ∧ ∀ (pins : StrobePins) (s : State) (j : Jar) (m : Measurements), s.strobeScene pins j →
    s.head.cyclePitch = some j.pitch → j.st = .inChuck m →
    let d := distance (s.clk.n + 1) j.pitch
    let overTq := s.head.entry.target.toNat + s.cfg.tolOver < m.peak.toNat
    let passes := s.head.seatReached = true
      ∧ s.head.entry.target.toNat ≤ m.peak.toNat + s.cfg.tolUnder
    let overJudged : State :=
      { s.tick with
        track := [{ j with st := .done .overTorque (.station s.cfg.own) .reject (some m) }]
        line := { s.line with queue := [doneFrame j .overTorque .reject m] }
        head := { s.head with chuck := .lift, cyclePitch := none, valveLeft := 0 } }.count 8
    (s.head.chuck = .flush → d ≠ seatBegin s.cfg s.head.plan →
      exec (.pitchStrobe pins) s
        = .next { s.tick with head := { s.head with valveLeft := s.head.valveLeft - 1 } })
    ∧ (s.head.chuck = .flush → d = seatBegin s.cfg s.head.plan →
      exec (.pitchStrobe pins) s
        = .next { s.tick with head := { s.head with chuck := .seat, valveLeft := 0 } })
    ∧ (s.head.chuck = .seat → d = driveBegin s.cfg s.head.plan →
      exec (.pitchStrobe pins) s
        = .next
            { s.tick with
              track := [{ j with st := .inChuck { m with peak := 0, theta := 0 } }]
              head := { s.head with chuck := .drive, phase := .running, seatReached := false } })
    ∧ (s.head.chuck = .drive → s.head.phase = .ended → 0 < s.head.plan.hold →
      d = holdBegin s.cfg s.head.plan →
      exec (.pitchStrobe pins) s = .next { s.tick with head := { s.head with chuck := .hold } })
    ∧ (s.head.chuck = .drive → s.head.phase = .running → d = holdBegin s.cfg s.head.plan →
      (passes → 0 < s.head.plan.hold → exec (.pitchStrobe pins) s
        = .next
            { s.tick with
              track := [{ j with nearFlag := true }]
              head := { s.head with phase := .ended, chuck := .hold } })
      ∧ (passes → s.head.plan.hold = 0 → ¬ overTq → exec (.pitchStrobe pins) s
        = .next
            { s.tick with
              track := [{ j with nearFlag := true }]
              head := { s.head with phase := .ended, chuck := .lift } })
      ∧ (¬ passes → exec (.pitchStrobe pins) s
        = .next
            ({ s.tick with
              track := [{ j with st := .done .under (.station s.cfg.own) .reject (some m) }]
              line := { s.line with queue := [doneFrame j .under .reject m] }
              head :=
                { s.head with phase := .ended, chuck := .lift, cyclePitch := none, valveLeft := 0 }
              }.count 7)))
    ∧ ((s.head.chuck = .hold ∧ d = liftBegin s.cfg s.head.plan)
        ∨ (s.head.chuck = .drive ∧ s.head.phase = .ended ∧ s.head.plan.hold = 0
          ∧ d = holdBegin s.cfg s.head.plan) →
      (¬ overTq →
        exec (.pitchStrobe pins) s = .next { s.tick with head := { s.head with chuck := .lift } })
      ∧ (overTq → s.cfg.overPass = true →
        exec (.pitchStrobe pins) s
          = .next
              { s.tick with
                track := [{ j with overFlag := true }]
                head := { s.head with chuck := .lift } })
      ∧ (overTq → s.cfg.overPass = false → exec (.pitchStrobe pins) s = .next overJudged))
    ∧ ((s.head.chuck = .seat ∧ d ≠ driveBegin s.cfg s.head.plan)
        ∨ (s.head.chuck = .drive ∧ d ≠ holdBegin s.cfg s.head.plan)
        ∨ (s.head.chuck = .hold ∧ d ≠ liftBegin s.cfg s.head.plan)
        ∨ (s.head.chuck = .lift ∧ d ≠ cycleEnd s.cfg s.head.plan) →
      exec (.pitchStrobe pins) s = .next s.tick)

/-- The end of LIFT at E + L: the record goes to PROBE_WAIT with its measurements, and the chuck to
RETURNING or READY; an early LIFT ends at the next strobe; the strobes of RETURNING count down to READY; in
WITHDRAWN as in RUN, and with gate role as without (R106, R119, R120). The end of LIFT with the probe at the
same strobe is in StrobeProbes. -/
def Obligations.StrobeEndsCycle : Prop :=
  ∀ (pins : StrobePins) (s : State) (j : Jar), s.headScene pins j →
    (s.cfg.gateRole = true → distance (s.clk.n + 1) j.pitch ≠ s.cfg.bankExit) →
    (∀ m : Measurements, s.head.chuck = .lift → s.head.cyclePitch = some j.pitch → j.st = .inChuck m →
      distance (s.clk.n + 1) j.pitch = cycleEnd s.cfg s.head.plan →
      cycleEnd s.cfg s.head.plan < s.cfg.probeDistance →
      exec (.pitchStrobe pins) s
        = .next
            { s.tick with
              track := [{ j with st := .probeWait m }]
              head := s.head.atPick s.cfg.returnPitches })
    ∧ (s.head.chuck = .lift → s.head.cyclePitch = none → j.st = .openJar →
      s.cfg.entryOffset ≤ distance (s.clk.n + 1) j.pitch →
      exec (.pitchStrobe pins) s = .next { s.tick with head := s.head.atPick s.cfg.returnPitches })
    ∧ (∀ left : Nat, s.head.chuck = .returning → s.head.cyclePitch = none → s.head.returnLeft = left + 1 →
      j.st = .openJar → s.cfg.entryOffset ≤ distance (s.clk.n + 1) j.pitch →
      exec (.pitchStrobe pins) s
        = .next
            { s.tick with
              head :=
                { s.head with
                  returnLeft := left
                  chuck := if left = 0 then .ready else .returning } })

/-- The probe at E + W + Q: the readings are stored, the deflection formed, and the verdict set, counted and
announced, and a REJECT handed to the gate on the gate-role station; in WITHDRAWN as in RUN, whatever the
chuck does, whether or not the jar stands at X, and after the end of LIFT where both fall at one strobe. The
DONE has the verdict code in bits 3 to 0 of payload A, and in bits 4 to 7 the disposition, the near flag,
the over flag and a short flush; payload B is the smaller of 255 and d div 16, 0 without a deflection (R119,
R120, R121, R144, R145, R146, R147, R148, R155). -/
def Obligations.StrobeProbes : Prop :=
  (∀ (j : Jar) (v : Verdict) (disp : Disposition) (m : Measurements),
    let code : Nat := match v with
      | .good => 0 | .lowVac => 1 | .domed => 2 | .under => 3 | .overTorque => 4 | .crossed => 5
      | .spin => 6 | .unchecked => 7 | .uncapped => 8
    v.code = code
      ∧ doneFrame j v disp m
        = ⟨.done, j.pitch,
            BitVec.ofNat 8 (code + (if disp = Disposition.reject then 16 else 0)
              + (if j.nearFlag = true then 32 else 0) + (if j.overFlag = true then 64 else 0) + (if j.flush = .short then 128 else 0)),
            match m.probe with
            | some ⟨_, _, some d⟩ => BitVec.ofNat 8 (min 255 (d.toNat / 16))
            | some ⟨_, _, none⟩ => 0
            | none => 0⟩)
  ∧ ∀ (pins : StrobePins) (s : State) (j : Jar) (m : Measurements) (h : Head), s.headScene pins j →
    distance (s.clk.n + 1) j.pitch = s.cfg.probeDistance →
    (j.st = .probeWait m ∧ s.head.cyclePitch = none ∧ s.head.chuck = .ready ∧ h = s.head)
      ∨ (j.st = .probeWait m ∧ s.head.cyclePitch = none ∧ s.head.chuck = .lift
        ∧ h = s.head.atPick s.cfg.returnPitches)
      ∨ (∃ left : Nat, j.st = .probeWait m ∧ s.head.cyclePitch = none ∧ s.head.chuck = .returning
        ∧ s.head.returnLeft = left + 1
        ∧ h = { s.head with returnLeft := left, chuck := if left = 0 then .ready else .returning })
      ∨ (j.st = .inChuck m ∧ s.head.cyclePitch = some j.pitch ∧ s.head.chuck = .lift
        ∧ cycleEnd s.cfg s.head.plan = s.cfg.probeDistance ∧ h = s.head.atPick s.cfg.returnPitches) →
    let r := pins.rim.toNat
    let q := pins.panel.toNat
    let rail := r = 0 ∨ r = 4095 ∨ q = 0 ∨ q = 4095
    let required := if j.flush = .short then s.cfg.deflectShort else s.cfg.deflectFull
    let read (d : Option Micron) : Measurements := { m with probe := some ⟨pins.rim, pins.panel, d⟩ }
    let judged (v : Verdict) (disp : Disposition) (ctr : Fin 30) (d : Option Micron) : State :=
      { s.tick with
        track := [{ j with st := .done v (.station s.cfg.own) disp (some (read d)) }]
        head := h
        line := { s.line with queue := [doneFrame j v disp (read d)] }
        gate := if s.cfg.gateRole = true ∧ disp = Disposition.reject then ⟨[⟨j.pitch, v⟩], false, .pass⟩ else s.gate
        }.count ctr
    (rail → exec (.pitchStrobe pins) s
      = .next (judged .unchecked (if s.cfg.uncheckedPass then .pass else .reject) 11 none))
    ∧ (¬ rail → required ≤ r - q → exec (.pitchStrobe pins) s
      = .next (judged .good (if j.nearFlag = true ∧ s.cfg.nearReject = true then .reject else .pass) 4
          (some (BitVec.ofNat 12 (r - q)))))
    ∧ (¬ rail → r - q < required → r + s.cfg.domeMargin < q → exec (.pitchStrobe pins) s
      = .next (judged .domed .reject 6 (some 0)))
    ∧ (¬ rail → r - q < required → q ≤ r + s.cfg.domeMargin → exec (.pitchStrobe pins) s
      = .next (judged .lowVac .reject 5 (some (BitVec.ofNat 12 (r - q)))))

/-! ### The pitch strobe: the reject gate -/

/-- Gate duty at a strobe (R59, R118, R143, R147, R155, R157, R159, R160, R174). On the gate-role station a
record at X in OPEN or HELD_PEER becomes UNCAPPED with source GATE and no claimant, is counted, and joins
the gate queue; a promise that falls due at that strobe lapses first; a DONE record is left, and a
PROBE_WAIT record at X = E + W + Q is judged by its probe and never UNCAPPED. An own OVER at the hold end
joins the gate queue, as a reject at the probe does (StrobeProbes). The due head of the gate queue is
removed and GATE is at REJECT; FLOOD clears when the queue is then empty; with nothing due GATE is at REJECT
exactly under FLOOD; a REJECT is counted. Without gate role the gate stands still, and GATE is at PASS. -/
def Obligations.StrobeGateDuty : Prop :=
  (∀ (pins : StrobePins) (s : State) (j : Jar),
      s.inRun = true → s.cfg.gateRole = true → s.track = [j] → s.steam.draws = [] → s.line.queue = [] →
      pins.eye = false → s.head.chuck = .ready → s.head.cyclePitch = none → s.gate = ⟨[], false, .pass⟩ →
      distance (s.clk.n + 1) j.pitch = s.cfg.bankExit → s.cfg.entryOffset < s.cfg.bankExit →
      let uncapped : State :=
        { s.tick with
          track := [{ j with st := .done .uncapped .gate .reject none }]
          gate := ⟨[⟨j.pitch, .uncapped⟩], false, .pass⟩ }
      let lapsed : State :=
        { uncapped with
          track := [{ j with st := .done .uncapped .gate .reject none, reopened := true }] }.count ctrLapses
      (j.st = .openJar → exec (.pitchStrobe pins) s = .next (uncapped.count ctrUncapped))
      ∧ (∀ (k : Station) (promise : Word) (ahead : Bool), j.st = .heldPeer k promise ahead →
        (¬ (ahead = true ∧ promise = s.clk.n + 1) →
          exec (.pitchStrobe pins) s = .next (uncapped.count ctrUncapped))
        ∧ (ahead = true → promise = s.clk.n + 1 → (s.peer k).st = .live →
          ((s.peer k).lapses + 1 ≠ s.cfg.parkLimit →
            exec (.pitchStrobe pins) s
              = .next ((lapsed.count ctrUncapped).putPeer k
                  { s.peer k with lapses := (s.peer k).lapses + 1 }))
          ∧ ((s.peer k).lapses + 1 = s.cfg.parkLimit →
            exec (.pitchStrobe pins) s
              = .next ((lapsed.count ctrUncapped).putPeer k
                  { s.peer k with st := .parked 0, lapses := (s.peer k).lapses + 1 }))))
      ∧ (j.isDone = true → exec (.pitchStrobe pins) s = .next s.tick))
  ∧ (∀ (pins : StrobePins) (s : State) (j : Jar) (m : Measurements), s.headScene pins j →
      s.cfg.gateRole = true →
      let d := distance (s.clk.n + 1) j.pitch
      (s.ctl.mode = .run → s.head.cyclePitch = some j.pitch → j.st = .inChuck m →
        (s.head.chuck = .hold ∧ d = liftBegin s.cfg s.head.plan)
          ∨ (s.head.chuck = .drive ∧ s.head.phase = .ended ∧ s.head.plan.hold = 0
            ∧ d = holdBegin s.cfg s.head.plan) →
        s.head.entry.target.toNat + s.cfg.tolOver < m.peak.toNat → s.cfg.overPass = false →
        exec (.pitchStrobe pins) s
          = .next
              ({ s.tick with
                track := [{ j with st := .done .overTorque (.station s.cfg.own) .reject (some m) }]
                line := { s.line with queue := [doneFrame j .overTorque .reject m] }
                head := { s.head with chuck := .lift, cyclePitch := none, valveLeft := 0 }
                gate := ⟨[⟨j.pitch, .overTorque⟩], false, .pass⟩ }.count 8))
      ∧ (j.st = .probeWait m → s.head.cyclePitch = none → s.head.chuck = .ready →
        d = s.cfg.bankExit → s.cfg.bankExit = s.cfg.probeDistance →
        ∃ (t : State) (v : Verdict) (disp : Disposition) (m' : Measurements),
          exec (.pitchStrobe pins) s = .next t
            ∧ t.track = [{ j with st := .done v (.station s.cfg.own) disp (some m') }] ∧ v ≠ .uncapped
            ∧ t.counters.get ctrUncapped = s.counters.get ctrUncapped))
  ∧ ∀ (pins : StrobePins) (s : State),
      s.inRun = true → s.track = [] → s.steam.draws = [] → s.line.queue = [] → pins.eye = false →
      s.head.chuck = .ready → s.head.cyclePitch = none →
      (∀ (e : GateEntry) (rest : List GateEntry), s.cfg.gateRole = true → s.gate.queue = e :: rest →
        e.pitch + BitVec.ofNat 16 s.cfg.gateOffset = s.clk.n + 1 →
        let t : State :=
          { s.tick with
            gate := ⟨rest, if rest = [] then false else s.gate.flood, .reject⟩ }.count ctrGateRejects
        exec (.pitchStrobe pins) s = .next t ∧ t.gatePin = .reject)
      ∧ (s.cfg.gateRole = true → (∀ e ∈ s.gate.queue.head?,
          e.pitch + BitVec.ofNat 16 s.cfg.gateOffset ≠ s.clk.n + 1) →
        let at_ (level : Disposition) : State := { s.tick with gate := { s.gate with output := level } }
        (s.gate.flood = true → s.gate.queue ≠ [] →
          exec (.pitchStrobe pins) s = .next ((at_ .reject).count ctrGateRejects)
            ∧ ((at_ .reject).count ctrGateRejects).gatePin = .reject)
        ∧ (s.gate.flood = false →
          exec (.pitchStrobe pins) s = .next (at_ .pass) ∧ (at_ .pass).gatePin = .pass))
      ∧ (s.cfg.gateRole = false → exec (.pitchStrobe pins) s = .next s.tick ∧ s.tick.gatePin = .pass)

/-- An insertion into an ordered gate queue: nothing for a pitch already held; with a free place the entry
stands in ascending order of distance to the gate; at a full queue the nearest of the 33 is dropped, FLOOD
is set and one flood is counted (R157, R158). -/
def Obligations.GateInsertion : Prop :=
  ∀ (s : State) (p : Word) (v : Verdict),
    s.gate.queue.Pairwise
      (fun x y => gateDistance s.cfg s.clk.n x.pitch < gateDistance s.cfg s.clk.n y.pitch) →
    ((∃ e ∈ s.gate.queue, e.pitch = p) → s.gateInsert p v = s)
    ∧ ((∀ e ∈ s.gate.queue, e.pitch ≠ p) → s.gate.queue.length < 32 →
      ∃ q : List GateEntry, s.gateInsert p v = { s with gate := { s.gate with queue := q } }
        ∧ q.Perm (⟨p, v⟩ :: s.gate.queue)
        ∧ q.Pairwise
            (fun x y => gateDistance s.cfg s.clk.n x.pitch < gateDistance s.cfg s.clk.n y.pitch))
    ∧ ((∀ e ∈ s.gate.queue, e.pitch ≠ p) → s.gate.queue.length = 32 →
      ∃ (dropped : GateEntry) (q : List GateEntry),
        s.gateInsert p v
          = { s with gate := { s.gate with queue := q, flood := true } }.count ctrFloods
        ∧ (dropped :: q).Perm (⟨p, v⟩ :: s.gate.queue) ∧ q.length = 32
        ∧ (dropped :: q).Pairwise
            (fun x y => gateDistance s.cfg s.clk.n x.pitch < gateDistance s.cfg s.clk.n y.pitch))

/-! ### Occurrences that the strobe takes, as commands of their own (log entry 8) -/

/-- Occurrences that a strobe takes, as commands of their own (log entry 8), and the lapse checks and stale
removals as the strobe takes them. A promise due at N, which had not passed when its CLAIM was taken,
reopens its record, counts a lapse, and raises the LIVE claimant's lapse count; at the park limit the
claimant is PARKED with an empty refresh set and its other records reopen, with no lapse counted for them; a
claimant that is not LIVE is left (log entry 18). A record reopened at a strobe may be claimed at it (busy
count: log entry 29). VALVE_CLOSE takes the last valve pitch, RETURN_END the last return pitch, DRAW_END a
draw whose age has reached its length; none has an effect where its moment has not come. A strobe removes
and counts every waiting CLAIM at or past E and STEAM at or past its length (R58, R59, R62, R76, R93, R98,
R99, R112, R120, R131). -/
def Obligations.StrobeOccurrences : Prop :=
  (∀ (s : State) (pre post : List Jar) (j : Jar), s.inRun = true → s.holds pre j post →
      let lapsed (track : List Jar) : State := { s with track := track }.count ctrLapses
      let reopened : List Jar := pre ++ { j with st := .openJar, reopened := true } :: post
      (∀ (k : Station) (promise : Word) (ahead : Bool), j.st = .heldPeer k promise ahead →
        (ahead = true → promise = s.clk.n →
          ((s.peer k).st = .live → (s.peer k).lapses + 1 ≠ s.cfg.parkLimit →
            exec (.lapse j.pitch) s
              = .next ((lapsed reopened).putPeer k { s.peer k with lapses := (s.peer k).lapses + 1 }))
          ∧ ((s.peer k).st = .live → (s.peer k).lapses + 1 = s.cfg.parkLimit →
            exec (.lapse j.pitch) s
              = .next ((lapsed (holdsReopened k reopened)).putPeer k
                  { s.peer k with st := .parked 0, lapses := (s.peer k).lapses + 1 }))
          ∧ ((s.peer k).st ≠ .live → exec (.lapse j.pitch) s = .next (lapsed reopened)))
        ∧ (¬ (ahead = true ∧ promise = s.clk.n) → exec (.lapse j.pitch) s = .next s))
      ∧ ((∀ k : Station, j.heldBy k = false) → exec (.lapse j.pitch) s = .next s))
  ∧ (∀ (s : State) (jar : Word), s.inRun = false ∨ s.lacks jar → exec (.lapse jar) s = .next s)
  ∧ (∀ (s : State) (k : Station),
      (s.ctl.mode = .run → s.head.chuck = .flush → s.head.valveLeft = 1 →
        exec .valveClose s = .next { s with head := { s.head with valveLeft := 0 } })
      ∧ (s.head.valveLeft ≠ 1 → exec .valveClose s = .next s)
      ∧ (s.inRun = true → s.head.chuck = .returning → s.head.returnLeft = 1 →
        exec .returnEnd s = .next { s with head := { s.head with returnLeft := 0, chuck := .ready } })
      ∧ (s.head.returnLeft ≠ 1 → exec .returnEnd s = .next s)
      ∧ (s.inRun = true → ∃ draws : List Draw,
        exec (.drawEnd (senderCode k)) s = .next { s with steam := { s.steam with draws := draws } }
          ∧ ∀ d : Draw, d ∈ draws ↔
              d ∈ s.steam.draws ∧ ¬ (d.station = k ∧ distance s.clk.n d.start = d.length.toNat))
      ∧ (s.inRun = false → exec (.drawEnd (senderCode k)) s = .next s))
  ∧ (∀ (pins : StrobePins) (s : State) (j : Jar) (k : Station) (promise : Word) (ahead : Bool),
      s.strobeScene pins j → s.head.cyclePitch = none → s.head.chuck = .ready →
      j.st = .heldPeer k promise ahead →
      let d := distance (s.clk.n + 1) j.pitch
      let lapsed (peer : Peer) : State :=
        ({ s.tick with track := [{ j with st := .openJar, reopened := true }] }.count ctrLapses).putPeer k peer
      let once : Peer := { s.peer k with lapses := (s.peer k).lapses + 1 }
      (¬ (ahead = true ∧ promise = s.clk.n + 1) → exec (.pitchStrobe pins) s = .next s.tick)
      ∧ (ahead = true → promise = s.clk.n + 1 → (s.peer k).st = .live →
        s.cfg.entryOffset ≤ d ∨ d < s.cfg.entryOffset - s.cfg.claimLead ∨ s.pins.capLow = true →
        ((s.peer k).lapses + 1 ≠ s.cfg.parkLimit → exec (.pitchStrobe pins) s = .next (lapsed once))
        ∧ ((s.peer k).lapses + 1 = s.cfg.parkLimit →
          exec (.pitchStrobe pins) s = .next (lapsed { once with st := .parked 0 })))
      ∧ (∀ b : Fin 16, ahead = true → promise = s.clk.n + 1 → (s.peer k).st = .live →
        (s.peer k).lapses + 1 ≠ s.cfg.parkLimit → j.band = some b →
        s.cfg.entryOffset - s.cfg.claimLead ≤ d → d < s.cfg.entryOffset → s.pins.capLow = false →
        exec (.pitchStrobe pins) s = .next
          (if (s.verdicts.profile.get b).target ≠ 0 ∧ s.claims.openClaims < s.cfg.commitLimit
              ∧ s.claims.busy - 1 ≤ s.cfg.entryOffset - d then
            { lapsed once with
              track := [{ j with st := .claimed, reopened := true }]
              claims := ⟨s.claims.openClaims + 1, s.claims.busy - 1⟩
              line := { s.line with queue :=
                [⟨.claim, j.pitch, byteOf (s.cfg.entryOffset + s.cfg.window + s.cfg.probeOffset + 1),
                  byteOf b.val⟩] } }.count ctrClaimsMade
          else lapsed once)))
  ∧ (∀ (pins : StrobePins) (s : State) (j j' : Jar) (k : Station) (promise : Word) (ahead : Bool),
      s.ctl.mode = .run → s.cfg.gateRole = false → s.track = [j, j'] → j.pitch ≠ j'.pitch →
      s.steam.draws = [] → s.line.queue = [] → pins.eye = false → s.head.cyclePitch = none →
      s.head.chuck = .ready →
      (∀ x ∈ [j, j'], s.cfg.entryOffset ≤ distance (s.clk.n + 1) x.pitch
        ∧ distance (s.clk.n + 1) x.pitch < s.cfg.retireDistance) →
      j.st = .heldPeer k (s.clk.n + 1) true → j'.st = .heldPeer k promise ahead → (s.peer k).st = .live →
      (s.peer k).lapses + 1 = s.cfg.parkLimit →
      exec (.pitchStrobe pins) s
        = .next (({ s.tick with
            track := [{ j with st := .openJar, reopened := true }, { j' with st := .openJar, reopened := true }]
            }.count ctrLapses).putPeer k
              { s.peer k with st := .parked 0, lapses := (s.peer k).lapses + 1 }))
  ∧ ∀ (pins : StrobePins) (s : State) (f : TxFrame) (rest : List TxFrame),
      s.inRun = true → s.cfg.gateRole = false → s.track = [] → pins.eye = false →
      s.head.cyclePitch = none → s.head.chuck = .ready → s.line.queue = f :: rest →
      let stale (x : TxFrame) : Bool :=
        (x.kind == .claim && decide (s.cfg.entryOffset ≤ (s.clk.n + 1 - x.jar).toNat))
          || (x.kind == .steam && decide (x.payA.toNat ≤ (s.clk.n + 1 - x.jar).toNat))
      let drawn : State :=
        { s.tick with
          steam :=
            { s.steam with
              draws := s.steam.draws.filter (fun d =>
                decide (distance (s.clk.n + 1) d.start ≠ d.length.toNat)) } }
      (s.line.sending = none → exec (.pitchStrobe pins) s
        = .next
            ({ drawn with
              line :=
                { s.line with
                  queue := (f :: rest).filter (fun x => !stale x)
                  retries := if stale f = true then 0 else s.line.retries } }.countBy ctrStaleRemovals
                ((f :: rest).filter stale).length))
      ∧ (∀ (bytes : FrameBytes) (doomed : Bool), s.line.sending = some ⟨f, bytes, false, doomed⟩ →
        exec (.pitchStrobe pins) s
          = .next
              ({ drawn with line := { s.line with queue := f :: rest.filter (fun x => !stale x) }
                }.countBy ctrStaleRemovals (rest.filter stale).length))

/-! ### The drive -/

/-- A torque sample while the drive is RUNNING, step by step: the peak, the seat with the angle from 0, the
target, the angle limit; a drive end that the verdict unit passes leaves the jar in the chuck, and CROSSED
or SPIN sets the verdict, counts it, queues the DONE, hands the reject to the gate on the gate-role station,
and lifts the chuck early (R115, R117, R141, R142, R147). -/
def Obligations.TorqueSampleRunning : Prop :=
  ∀ (s : State) (pre post : List Jar) (j : Jar) (m : Measurements) (tau : Byte),
    s.ctl.mode = .run → s.holds pre j post → s.head.cyclePitch = some j.pitch → s.head.chuck = .drive →
    s.head.phase = .running → j.st = .inChuck m →
    let peak : Byte := if m.peak.toNat < tau.toNat then tau else m.peak
    let seatsNow := s.head.seatReached = false ∧ s.cfg.seatThreshold ≤ tau.toNat
    let theta : Byte := if seatsNow then 0 else m.theta
    let seated := s.head.seatReached = true ∨ s.cfg.seatThreshold ≤ tau.toNat
    let reading : Measurements := { m with peak := peak, theta := theta }
    let kept : State :=
      { s with
        track := pre ++ { j with st := .inChuck reading } :: post
        head := { s.head with seatReached := decide seated } }
    let judged (v : Verdict) (ctr : Fin 30) : State :=
      ({ s with
        track := pre ++ { j with st := .done v (.station s.cfg.own) .reject (some reading) } :: post
        }.count ctr).enqueue (doneFrame j v .reject reading)
    let failed (v : Verdict) (ctr : Fin 30) : State :=
      { (if s.cfg.gateRole = true then (judged v ctr).gateInsert j.pitch v else judged v ctr) with
        head :=
          { s.head with
            chuck := .lift, cyclePitch := none, valveLeft := 0, phase := .ended
            seatReached := decide seated } }
    (s.head.entry.target.toNat ≤ peak.toNat → s.head.entry.amin.toNat ≤ theta.toNat →
      exec (.torqueSample tau) s = .next { kept with head := { kept.head with phase := .ended } })
    ∧ (s.head.entry.target.toNat ≤ peak.toNat → theta.toNat < s.head.entry.amin.toNat →
      exec (.torqueSample tau) s = .next (failed .crossed 9))
    ∧ (peak.toNat < s.head.entry.target.toNat → seated → s.head.entry.amax.toNat ≤ theta.toNat →
      exec (.torqueSample tau) s = .next (failed .spin 10))
    ∧ (peak.toNat < s.head.entry.target.toNat → ¬ (seated ∧ s.head.entry.amax.toNat ≤ theta.toNat) →
      exec (.torqueSample tau) s = .next kept)

/-- The other samples of the drive. After the drive has ended torque OK, in the rest of DRIVE and in HOLD, a
torque sample raises the peak alone; outside DRIVE and HOLD, and outside RUN, none is taken. A pulse on
ANGLE_STEP raises the angle by one, saturating at 255, while the drive is RUNNING with the seat reached, and
is ignored otherwise (R114, R116, R117, R124). -/
def Obligations.DriveSamples : Prop :=
  (∀ (s : State) (pre post : List Jar) (j : Jar) (m : Measurements) (tau : Byte),
      (s.ctl.mode = .run → s.holds pre j post → s.head.cyclePitch = some j.pitch → j.st = .inChuck m →
        (s.head.chuck = .drive ∧ s.head.phase = .ended) ∨ s.head.chuck = .hold →
        exec (.torqueSample tau) s
          = .next
              { s with
                track := pre ++ { j with
                  st := .inChuck { m with peak := if m.peak.toNat < tau.toNat then tau else m.peak } }
                  :: post })
      ∧ (s.head.chuck ≠ .drive → s.head.chuck ≠ .hold → exec (.torqueSample tau) s = .next s)
      ∧ (s.ctl.mode ≠ .run → exec (.torqueSample tau) s = .next s))
  ∧ ∀ (s : State) (pre post : List Jar) (j : Jar) (m : Measurements),
      (s.ctl.mode = .run → s.holds pre j post → s.head.cyclePitch = some j.pitch → j.st = .inChuck m →
        s.head.chuck = .drive → s.head.phase = .running → s.head.seatReached = true →
        exec .angleStep s
          = .next
              { s with
                track := pre ++ { j with
                  st := .inChuck { m with theta := BitVec.ofNat 8 (min 255 (m.theta.toNat + 1)) } }
                  :: post })
      ∧ (s.head.seatReached = false ∨ s.head.phase ≠ .running ∨ s.ctl.mode ≠ .run →
        exec .angleStep s = .next s)

/-- The expiry, as a command of its own (log entry 8), of a drive still RUNNING with the jar at the HOLD
begin distance: with the seat reached and the peak within tol_u of the target the jar goes on with the near
flag set, to HOLD, or to LIFT where the HOLD length is 0 and no over-torque holds; otherwise UNDER is set,
counted and announced, handed to the gate on the gate-role station, and the chuck lifts early (R117, R118,
R141, R142, R147). A drive that is not RUNNING, or whose jar stands anywhere else, does not expire. -/
def Obligations.DriveExpiryJudged : Prop :=
  ∀ (s : State) (pre post : List Jar) (j : Jar) (m : Measurements),
    (s.ctl.mode = .run → s.holds pre j post → s.head.cyclePitch = some j.pitch → s.head.chuck = .drive →
      s.head.phase = .running → j.st = .inChuck m →
      distance s.clk.n j.pitch = holdBegin s.cfg s.head.plan →
      let passes := s.head.seatReached = true
        ∧ s.head.entry.target.toNat ≤ m.peak.toNat + s.cfg.tolUnder
      let judged : State :=
        ({ s with
          track := pre ++ { j with st := .done .under (.station s.cfg.own) .reject (some m) } :: post
          }.count 7).enqueue (doneFrame j .under .reject m)
      (passes → 0 < s.head.plan.hold → exec .driveExpiry s
        = .next
            { s with
              track := pre ++ { j with nearFlag := true } :: post
              head := { s.head with phase := .ended, chuck := .hold } })
      ∧ (passes → s.head.plan.hold = 0 →
        m.peak.toNat ≤ s.head.entry.target.toNat + s.cfg.tolOver → exec .driveExpiry s
        = .next
            { s with
              track := pre ++ { j with nearFlag := true } :: post
              head := { s.head with phase := .ended, chuck := .lift } })
      ∧ (¬ passes → exec .driveExpiry s
        = .next
            { (if s.cfg.gateRole = true then judged.gateInsert j.pitch .under else judged) with
              head :=
                { s.head with phase := .ended, chuck := .lift, cyclePitch := none, valveLeft := 0 } }))
    ∧ (s.head.phase ≠ .running
        ∨ (s.head.cyclePitch = some j.pitch ∧ distance s.clk.n j.pitch ≠ holdBegin s.cfg s.head.plan) →
      exec .driveExpiry s = .next s)

/-! ### The bank line: sending -/

/-- The frame (R84 to R87, R89). The CRC register shifts and combines with 7 when the bit shifted out of the
top differs from the data bit, most significant bit of a byte first, from 0xFF over bytes 0 to 6. A receiver
refuses a frame exactly when its CRC fails, its sender is 0 or 9 to 15, or its kind code is 0 or 7 to 15,
and otherwise takes each field as carried. A frame is loaded with sender and kind in byte 0, stamp and jar
field high byte first, the payloads and the CRC, and one loaded by a station 1 to 8 is read as it was
loaded, whatever its kind, stamp, jar field and payloads. -/
def Obligations.FrameRoundTrip : Prop :=
  let code (x : Kind) : Nat := match x with
    | .hello => 1 | .claim => 2 | .release => 3 | .done => 4 | .steam => 5 | .withdraw => 6
  (∀ (reg b : Byte) (d : Bool),
      (crcBit reg d).toNat
          = (if (decide (128 ≤ reg.toNat)) = d then (2 * reg.toNat) % 256
            else Nat.xor ((2 * reg.toNat) % 256) 7)
        ∧ crcByte reg b
          = crcBit (crcBit (crcBit (crcBit (crcBit (crcBit (crcBit (crcBit reg (b.getLsbD 7))
              (b.getLsbD 6)) (b.getLsbD 5)) (b.getLsbD 4)) (b.getLsbD 3)) (b.getLsbD 2)) (b.getLsbD 1))
              (b.getLsbD 0)
        ∧ crcOf [] = 0xFF#8)
  ∧ (∀ (l : List Byte) (b : Byte), crcOf (l ++ [b]) = crcByte (crcOf l) b)
  ∧ (∀ f : FrameBytes,
      let sender := f.b0.toNat / 16
      let kind := f.b0.toNat % 16
      frameCrc f = crcOf [f.b0, f.b1, f.b2, f.b3, f.b4, f.b5, f.b6]
      ∧ (readFrame? f = none ↔
          frameCrc f ≠ f.b7 ∨ sender = 0 ∨ 9 ≤ sender ∨ kind = 0 ∨ 7 ≤ kind)
      ∧ ∀ x : RxFrame, readFrame? f = some x →
          stationNum x.sender = sender ∧ code x.kind = kind ∧ x.stamp.toNat = 256 * f.b1.toNat + f.b2.toNat
            ∧ x.jar.toNat = 256 * f.b3.toNat + f.b4.toNat ∧ x.payA = f.b5 ∧ x.payB = f.b6)
  ∧ ∀ (k : Station) (stamp : Word) (f : TxFrame),
      let g : FrameBytes := loadFrame (stationNum k) stamp f
      readFrame? g = some ⟨k, f.kind, stamp, f.jar, f.payA, f.payB⟩
        ∧ g.b0.toNat = 16 * stationNum k + code f.kind
        ∧ g.b1.toNat = stamp.toNat / 256 ∧ g.b2.toNat = stamp.toNat % 256
        ∧ g.b3.toNat = f.jar.toNat / 256 ∧ g.b4.toNat = f.jar.toNat % 256
        ∧ g.b5 = f.payA ∧ g.b6 = f.payB ∧ g.b7 = crcOf [g.b0, g.b1, g.b2, g.b3, g.b4, g.b5, g.b6]

/-- A send attempt: outside FAULT, with the watcher not in a frame and nothing on the line, the head is
loaded with the station's number and N once the quiet time has reached 16 + 4 s bit times, and waits on
before that; while a frame is on the line, and in FAULT, nothing begins (R94, R95, R101). How line time
comes in, as `elapsed`, is log entry 4. -/
def Obligations.SendAttemptLoads : Prop :=
  ∀ (elapsed : Nat) (s : State),
    (∀ (f : TxFrame) (rest : List TxFrame), s.ctl.mode ≠ .fault →
      s.line.watcher = .ready ∨ s.line.watcher = .waiting → s.line.sending = none →
      s.line.queue = f :: rest →
      (16 + 4 * s.cfg.number ≤ s.line.quiet + elapsed →
        exec (.sendAttempt elapsed) s
          = .next
              { s with
                line :=
                  { s.line with
                    sending := some ⟨f, loadFrame s.cfg.number s.clk.n f, false, false⟩
                    watcher := .assembling
                    quiet := 0 } })
      ∧ (s.line.quiet + elapsed < 16 + 4 * s.cfg.number →
        exec (.sendAttempt elapsed) s
          = .next { s with line := { s.line with quiet := s.line.quiet + elapsed } }))
    ∧ (s.ctl.mode = .fault ∨ s.line.sending.isSome = true ∨ s.line.watcher = .assembling →
      exec (.sendAttempt elapsed) s = .next s)

/-- A completed send of the head: the frame leaves the queue, the next has a retry count of 0, one frame sent
is counted, and an own DONE in RUN or WITHDRAWN feeds the refresh collection; a frame left on the line by
START goes without touching the queue, is counted as sent, and feeds the collection in the same way (R95, R78,
R102). That the peer table is not touched outside a run, and what a frame left by START does, are the model's
readings, log entries 13 and 21. -/
def Obligations.SendCompletes : Prop :=
  ∀ (s : State) (f : TxFrame) (rest : List TxFrame) (bytes : FrameBytes) (doomed : Bool),
    let sent : State :=
      { s with line := { s.line with sending := none, watcher := .ready, quiet := 0 } }.count
        ctrFramesSent
    (s.line.sending = some ⟨f, bytes, false, doomed⟩ → s.line.queue = f :: rest →
      (f.kind ≠ .done ∨ s.inRun = false → exec .sendComplete s
        = .next { sent with line := { sent.line with queue := rest, retries := 0 } })
      ∧ (f.kind = .done → s.inRun = true → exec .sendComplete s
        = .next ({ sent with line := { sent.line with queue := rest, retries := 0 } }.refresh s.cfg.own)))
    ∧ (s.line.sending = some ⟨f, bytes, true, doomed⟩ →
      (f.kind ≠ .done ∨ s.inRun = false → exec .sendComplete s = .next sent)
      ∧ (f.kind = .done → s.inRun = true → exec .sendComplete s = .next (sent.refresh s.cfg.own)))
    ∧ (s.line.sending = none → exec .sendComplete s = .next s)

/-- A collision: the line is released, a collision is counted and the head's retry count raised, holding at
255. The head is removed when it is stale (counted) or its removal was asked for, dropped when the count has
passed the retry limit (counted), and otherwise waits (R96, R97, R98, R99). Which comes first where two of
these meet is the model's reading, log entry 12. -/
def Obligations.CollisionRetries : Prop :=
  ∀ (s : State) (f : TxFrame) (rest : List TxFrame) (bytes : FrameBytes) (doomed : Bool),
    s.line.sending = some ⟨f, bytes, false, doomed⟩ → s.line.queue = f :: rest →
    let again := min 255 (s.line.retries + 1)
    let stale := s.inRun = true ∧
      ((f.kind = .claim ∧ s.cfg.entryOffset ≤ (s.clk.n - f.jar).toNat)
        ∨ (f.kind = .steam ∧ f.payA.toNat ≤ (s.clk.n - f.jar).toNat))
    let passed := (s.cfg.retryCode = 0 ∧ 4 < again) ∨ (s.cfg.retryCode = 1 ∧ 16 < again)
      ∨ (s.cfg.retryCode = 2 ∧ 64 < again)
    let released : State := { s with line := { s.line with sending := none } }.count ctrCollisions
    let gone : State := { released with line := { released.line with queue := rest, retries := 0 } }
    (stale → exec .collision s = .next (gone.count ctrStaleRemovals))
    ∧ (¬ stale → doomed = true → exec .collision s = .next gone)
    ∧ (¬ stale → doomed = false → passed → exec .collision s = .next (gone.count ctrRetryDrops))
    ∧ (¬ stale → doomed = false → ¬ passed → exec .collision s
        = .next { released with line := { released.line with retries := again } })

/-- A removal at a block's request takes the waiting frames that it names, in order, and no other; a frame on
the line stays and is marked; when the head goes, the next head starts with a retry count of 0 (R93, R96). -/
def Obligations.RemovalFromQueue : Prop :=
  ∀ (gone : TxFrame → Bool) (l : BankLine) (f : TxFrame) (rest : List TxFrame), l.queue = f :: rest →
    (l.sending = none →
      l.withdrawFrames gone
        = { l with
            queue := (f :: rest).filter (fun x => !gone x)
            retries := if gone f = true then 0 else l.retries })
    ∧ (∀ (bytes : FrameBytes) (doomed : Bool), l.sending = some ⟨f, bytes, false, doomed⟩ →
      l.withdrawFrames gone
        = { l with
            queue := f :: rest.filter (fun x => !gone x)
            sending := some ⟨f, bytes, false, doomed || gone f⟩ })

/-! ### The bank line: receiving -/

/-- FRAME_RECEIVED completes the frame that the watcher assembles; with none begun, in FAULT, and for the
own read-back it has no effect (log entry 4). In LOADING and STANDBY nothing is judged. In RUN and WITHDRAWN
a frame that fails a receive check is one bad frame; a good one in step is taken as the TAKEN row of its
kind (log entry 6); the own number leads to FAULT, with the withdraw reason absent, an idle head and a quiet
time of 0 (log entries 16, 19, 26); a MISMATCHED sender's frame other than a HELLO is one bad frame; and an
out-of-step frame is one skewed frame, counted against an ABSENT, LIVE or PARKED sender, which the eighth in
a row makes MISMATCHED with the records held for it reopened (log entry 18), counted up to 8 against a
WITHDRAWN one, and changing no MISMATCHED one. That the sender's state is read as the frame is taken, also
after a HELLO of it, is log entry 30 (R12, R62, R70, R71, R75, R88, R89, R90, R101, R173). -/
def Obligations.FrameReceivedJudged : Prop :=
  ∀ (bytes : FrameBytes) (s : State),
    let ended : State := { s with line := { s.line with watcher := .ready, quiet := 0 } }
    (s.ctl.mode = .fault ∨ s.line.watcher ≠ .assembling ∨ s.line.sending.isSome = true →
      exec (.frameReceived bytes) s = .next s)
    ∧ (s.ctl.mode ≠ .fault → s.line.watcher = .assembling → s.line.sending = none →
      (s.inRun = false → exec (.frameReceived bytes) s = .next ended)
      ∧ (s.inRun = true → readFrame? bytes = none →
        exec (.frameReceived bytes) s = .next (ended.count ctrBadFrames))
      ∧ (∀ f : RxFrame, s.inRun = true → readFrame? bytes = some f →
        (f.stamp - s.clk.n = 65535 ∨ f.stamp - s.clk.n = 0 ∨ f.stamp - s.clk.n = 1 →
          exec (.frameReceived bytes) s
            = exec (match f.kind with
                | .hello => .helloTaken (senderCode f.sender) f.jar f.payA f.payB
                | .claim => .claimTaken (senderCode f.sender) f.jar f.payA f.payB
                | .release => .releaseTaken (senderCode f.sender) f.jar
                | .done => .doneTaken (senderCode f.sender) f.jar f.payA f.payB
                | .steam => .steamTaken (senderCode f.sender) f.jar f.payA f.payB
                | .withdraw => .withdrawTaken (senderCode f.sender) f.payA) ended)
        ∧ (s.cfg.number = stationNum f.sender →
          ∃ t : State, exec (.frameReceived bytes) s = .next t
            ∧ t.ctl = { s.ctl with
                mode := .fault, faultCause := some .duplicateId, withdrawReason := none }
            ∧ t.line = ⟨[], none, 0, .stopped, 0⟩ ∧ t.track = [] ∧ t.claims = ⟨0, 0⟩
            ∧ t.head = Head.idle s.head.plan ∧ t.steam.draws = [] ∧ t.gate = ⟨[], false, .pass⟩
            ∧ t.peers = s.peers ∧ t.clk = s.clk ∧ t.verdicts = s.verdicts ∧ t.port = s.port
            ∧ t.faultLamp = true)
        ∧ (∀ why : MismatchReason, s.cfg.number ≠ stationNum f.sender →
          (s.peer f.sender).st = .mismatched why → f.kind ≠ .hello →
          exec (.frameReceived bytes) s = .next (ended.count ctrBadFrames))
        ∧ (s.cfg.number ≠ stationNum f.sender →
          f.stamp - s.clk.n ≠ 65535 → f.stamp - s.clk.n ≠ 0 → f.stamp - s.clk.n ≠ 1 →
          let skewed : State := ended.count ctrSkewedFrames
          let p : Peer := s.peer f.sender
          (∀ r : BitVec 8, p.st = .absent ∨ p.st = .live ∨ p.st = .parked r →
            (p.skew + 1 ≠ 8 →
              exec (.frameReceived bytes) s
                = .next (skewed.putPeer f.sender { p with skew := p.skew + 1 }))
            ∧ (p.skew + 1 = 8 →
              exec (.frameReceived bytes) s
                = .next
                    ({ skewed with track := holdsReopened f.sender s.track }.putPeer f.sender
                      { p with st := .mismatched .skew, skew := 8 })))
          ∧ (p.st = .withdrawn →
            exec (.frameReceived bytes) s
              = .next (skewed.putPeer f.sender { p with skew := min 8 (p.skew + 1) }))
          ∧ (p.setApart → f.kind = .hello → exec (.frameReceived bytes) s = .next skewed))))

/-- The line watcher: a dominant level starts a frame from READY, or from WAITING after 12 bit times of
quiet, and resets the quiet time; a frame found malformed or left recessive for more than 12 bit times is
abandoned, and counted once among bad frames in RUN and WITHDRAWN alone; in FAULT the watcher does nothing
(R88, R89, R94). How line time comes in, as `elapsed`, is log entry 4. -/
def Obligations.LineWatcher : Prop :=
  ∀ (elapsed : Nat) (s : State),
    (s.line.watcher = .ready →
      exec (.frameStart elapsed) s
        = .next { s with line := { s.line with watcher := .assembling, quiet := 0 } })
    ∧ (s.line.watcher = .waiting →
      exec (.frameStart elapsed) s
        = .next
            { s with
              line :=
                { s.line with
                  watcher := if 12 ≤ s.line.quiet + elapsed then .assembling else .waiting
                  quiet := 0 } })
    ∧ (s.line.watcher = .stopped →
      exec (.frameStart elapsed) s = .next s ∧ exec .malformedFrame s = .next s
        ∧ exec (.frameAbandoned elapsed) s = .next s)
    ∧ (s.line.watcher = .assembling → s.line.sending = none →
      let left (quiet : Nat) : State := { s with line := { s.line with watcher := .waiting, quiet := quiet } }
      (s.inRun = true → exec .malformedFrame s = .next ((left 0).count ctrBadFrames))
      ∧ (s.inRun = false → exec .malformedFrame s = .next (left 0))
      ∧ (s.inRun = true → 12 < s.line.quiet + elapsed →
        exec (.frameAbandoned elapsed) s = .next ((left (s.line.quiet + elapsed)).count ctrBadFrames))
      ∧ (s.inRun = false → 12 < s.line.quiet + elapsed →
        exec (.frameAbandoned elapsed) s = .next (left (s.line.quiet + elapsed)))
      ∧ (s.line.quiet + elapsed ≤ 12 → exec (.frameAbandoned elapsed) s = .next s))

/-! ### Frames of peers, in step (log entry 6) -/

/-- Where a TAKEN row takes no frame: outside RUN and WITHDRAWN it has no effect; a sender field of 0 or 9 to
15, and a MISMATCHED sender of a frame other than a HELLO, is one bad frame and nothing else; the own number
leads to FAULT (R70, R71, R89). That these rows carry the checks of R70 and R71, and that such a sender field
makes the row one bad frame, is the model's reading, log entry 6. -/
def Obligations.FrameNotTaken : Prop :=
  ∀ (c : BitVec 4) (k : Station) (jar : Word) (a b : Byte) (s : State),
    (∀ i ∈ [Instr.helloTaken c jar a b, .claimTaken c jar a b, .releaseTaken c jar, .doneTaken c jar a b,
        .steamTaken c jar a b, .withdrawTaken c a],
      (s.inRun = false → exec i s = .next s)
      ∧ (s.inRun = true → c.toNat = 0 ∨ 9 ≤ c.toNat → exec i s = .next (s.count ctrBadFrames))
      ∧ (s.inRun = true → c = senderCode k → s.cfg.number = stationNum k →
        ∃ t : State, exec i s = .next t ∧ t.ctl.mode = .fault ∧ t.ctl.faultCause = some .duplicateId
          ∧ t.line.queue = [] ∧ t.track = []))
    ∧ (∀ i ∈ [Instr.claimTaken c jar a b, .releaseTaken c jar, .doneTaken c jar a b,
        .steamTaken c jar a b, .withdrawTaken c a],
      s.hears k → c = senderCode k → (s.peer k).setApart → exec i s = .next (s.count ctrBadFrames))

/-- A HELLO: its facts are stored, GATE_CONFLICT and GATE_SHORT tested, and the sender passes or fails the
three checks in order. A passing HELLO makes an ABSENT or MISMATCHED sender LIVE, the latter with its counts
at 0, and leaves a PARKED one PARKED; a failing one makes the sender MISMATCHED with the reason of the first
failing check and reopens its records; a WITHDRAWN one stays WITHDRAWN (R62, R72, R73, R74). That
the row is the good frame in step, noted by R70 first, is the model's reading, log entry 6, and that a sender
which is not LIVE has its records reopened too is log entry 18. -/
def Obligations.HelloOutcome : Prop :=
  ∀ (s : State) (k : Station) (jar : Word) (a b : Byte), s.hears k →
    let facts : HelloFacts :=
      ⟨hiByte jar, loByte jar, a.extractLsb' 0 4, a.extractLsb' 4 2, b.extractLsb' 0 4, b.getLsbD 7⟩
    let p : Peer := { s.peer k with facts := some facts, skew := 0, lastHeard := some s.clk.n }
    let flagged : State :=
      { s with
        peers :=
          { s.peers with
            gateConflict := s.peers.gateConflict || (s.cfg.gateRole && facts.gate)
            gateShort :=
              s.peers.gateShort || (s.cfg.gateRole && decide (s.cfg.bankExit ≤ facts.exit.toNat)) } }
    let sameDef := facts.pitchBit = s.cfg.pitchBit ∧ facts.edge = s.cfg.edge
    let sameSteam := facts.steam.toNat = s.cfg.steamLimit
    let ordered := (stationNum k < s.cfg.number ∧ facts.entry.toNat < s.cfg.entryOffset)
      ∨ (s.cfg.number < stationNum k ∧ s.cfg.entryOffset < facts.entry.toNat)
    (sameDef ∧ sameSteam ∧ ordered →
      ((s.peer k).st = .absent ∨ (s.peer k).st = .live →
        exec (.helloTaken (senderCode k) jar a b) s = .next (flagged.putPeer k { p with st := .live }))
      ∧ (∀ r : BitVec 8, (s.peer k).st = .parked r →
        exec (.helloTaken (senderCode k) jar a b) s = .next (flagged.putPeer k p))
      ∧ (∀ why : MismatchReason, (s.peer k).st = .mismatched why →
        exec (.helloTaken (senderCode k) jar a b) s
          = .next (flagged.putPeer k { p with st := .live, lapses := 0 })))
    ∧ (¬ (sameDef ∧ sameSteam ∧ ordered) → (s.peer k).st ≠ .withdrawn →
      exec (.helloTaken (senderCode k) jar a b) s
        = .next
            ({ flagged with
              track := s.track.map (fun (x : Jar) =>
                if x.heldBy k then { x with st := .openJar, reopened := true } else x) }.putPeer k
              { p with
                st := .mismatched
                  (if ¬ sameDef then .pitchDef else if ¬ sameSteam then .steamLimit else .order) }))
    ∧ ((s.peer k).st = .withdrawn →
      exec (.helloTaken (senderCode k) jar a b) s = .next (flagged.putPeer k p))

/-- A CLAIM of a LIVE peer, or of an ABSENT one that it makes LIVE, by the state of the record: OPEN is held
for it; of two peers' claims the upstream one stands; an own CLAIMED record yields to an upstream sender, with
the counts and the unsent CLAIM; every other record is left. A CLAIM from a sender that is not LIVE, and one
without a record, is an unknown-jar claim. The promise is marked as one that falls due when its distance is
above the record's at that moment (R52, R53, R54, R55, R58). What the row is, is the model's reading, log
entry 6. -/
def Obligations.ClaimTaken : Prop :=
  ∀ (s : State) (k : Station) (jar : Word) (a b : Byte), s.hears k → ¬ (s.peer k).setApart →
    ((s.peer k).st = .absent ∨ (s.peer k).st = .live →
      (∀ (pre post : List Jar) (j : Jar), s.holds pre j post → j.pitch = jar →
        let heard : State := s.putPeer k ((s.peer k).heard s.clk.n)
        let held : State :=
          { heard with
            track := pre ++ { j with
              st := .heldPeer k (jar + BitVec.ofNat 16 a.toNat) (decide ((s.clk.n - jar).toNat < a.toNat)) }
              :: post }
        (j.st = .openJar → exec (.claimTaken (senderCode k) jar a b) s = .next held)
        ∧ (∀ (c : Station) (q : Word) (ahead : Bool), j.st = .heldPeer c q ahead →
          (stationNum k < stationNum c → exec (.claimTaken (senderCode k) jar a b) s = .next held)
          ∧ (stationNum c ≤ stationNum k → exec (.claimTaken (senderCode k) jar a b) s = .next heard))
        ∧ (j.st = .claimed → stationNum k < s.cfg.number →
          exec (.claimTaken (senderCode k) jar a b) s
            = .next
                ({ held with
                  claims := { s.claims with openClaims := s.claims.openClaims - 1 }
                  line := s.line.withdrawFrames (fun (f : TxFrame) => f.kind == Kind.claim && f.jar == jar) }.count
                  ctrYields))
        ∧ (j.st = .claimed → s.cfg.number < stationNum k →
          exec (.claimTaken (senderCode k) jar a b) s = .next heard)
        ∧ (j.isInChuck = true ∨ j.isDone = true ∨ (∃ m : Measurements, j.st = .probeWait m) →
          exec (.claimTaken (senderCode k) jar a b) s = .next heard))
      ∧ (s.lacks jar →
        exec (.claimTaken (senderCode k) jar a b) s
          = .next ((s.putPeer k ((s.peer k).heard s.clk.n)).count ctrUnknownJarClaims)))
    ∧ (∀ r : BitVec 8, (s.peer k).st = .parked r ∨ (s.peer k).st = .withdrawn →
      exec (.claimTaken (senderCode k) jar a b) s
        = .next ((s.putPeer k ((s.peer k).heard s.clk.n)).count ctrUnknownJarClaims))

/-- A RELEASE reopens the record that its LIVE sender holds, with no lapse counted, and is ignored for no
record, another claimant, another state, a sender that is not LIVE, and outside RUN and WITHDRAWN (R56). What
the row is, is the model's reading, log entry 6. -/
def Obligations.ReleaseTaken : Prop :=
  ∀ (s : State) (k : Station) (jar : Word),
    (s.hears k → ¬ (s.peer k).setApart →
      let heard : State := s.putPeer k ((s.peer k).heard s.clk.n)
      let live := (s.peer k).st = .absent ∨ (s.peer k).st = .live
      (∀ (pre post : List Jar) (j : Jar), s.holds pre j post → j.pitch = jar →
        (live → j.heldBy k = true →
          exec (.releaseTaken (senderCode k) jar) s
            = .next { heard with track := pre ++ { j with st := .openJar, reopened := true } :: post })
        ∧ (¬ live ∨ j.heldBy k = false →
          exec (.releaseTaken (senderCode k) jar) s = .next heard))
      ∧ (s.lacks jar → exec (.releaseTaken (senderCode k) jar) s = .next heard))
    ∧ (s.inRun = false → exec (.releaseTaken (senderCode k) jar) s = .next s)

/-- A DONE of any sender that is not MISMATCHED, after the refresh collection has taken it (RefreshReturns):
the verdict, disposition and flags of the frame are set on a record in OPEN, HELD_PEER or CLAIMED, the last
dropping the own claim, and a REJECT joins the gate queue on the gate-role station; IN_CHUCK and PROBE_WAIT
count a conflict; DONE keeps its verdict; no record is a late DONE; codes 8 to 15 are ignored (R65, R149,
R150). What the row is, is the model's reading, log entry 6. -/
def Obligations.DoneTaken : Prop :=
  ∀ (s : State) (k : Station) (jar : Word) (a b : Byte), s.hears k → ¬ (s.peer k).setApart →
    let heard : State := (s.putPeer k ((s.peer k).heard s.clk.n)).refresh k
    let disp : Disposition := if a.getLsbD 4 then .reject else .pass
    (∀ v : Verdict, a.toNat % 16 = v.code → v ≠ .uncapped →
      (∀ (pre post : List Jar) (j : Jar), s.holds pre j post → j.pitch = jar →
        let judged : State :=
          { heard with
            track := pre ++ { j with
              st := .done v (.station k) disp none, nearFlag := a.getLsbD 5,
              overFlag := a.getLsbD 6 } :: post }
        let gated : State :=
          if s.cfg.gateRole = true ∧ disp = .reject then judged.gateInsert jar v else judged
        let flagged : State := { heard with track := pre ++ { j with conflict := true } :: post }
        (j.st = .openJar ∨ (∃ (c : Station) (q : Word) (ahead : Bool), j.st = .heldPeer c q ahead) →
          exec (.doneTaken (senderCode k) jar a b) s = .next gated)
        ∧ (j.st = .claimed → exec (.doneTaken (senderCode k) jar a b) s
          = .next
              { gated with
                claims := { s.claims with openClaims := s.claims.openClaims - 1 }
                line := s.line.withdrawFrames (fun (f : TxFrame) => f.kind == .claim && f.jar == jar) })
        ∧ ((∃ m : Measurements, j.st = .inChuck m ∨ j.st = .probeWait m) →
          exec (.doneTaken (senderCode k) jar a b) s = .next (heard.count ctrConflicts))
        ∧ (∀ (v' : Verdict) (d' : Disposition) (m : Option Measurements), j.st = .done v' .gate d' m →
          exec (.doneTaken (senderCode k) jar a b) s = .next (flagged.count ctrLateDone))
        ∧ (∀ (v' : Verdict) (q : Station) (d' : Disposition) (m : Option Measurements),
          j.st = .done v' (.station q) d' m →
          (v = v' ∧ disp = d' → exec (.doneTaken (senderCode k) jar a b) s = .next heard)
          ∧ (¬ (v = v' ∧ disp = d') →
            exec (.doneTaken (senderCode k) jar a b) s = .next (flagged.count ctrConflicts))))
      ∧ (s.lacks jar → exec (.doneTaken (senderCode k) jar a b) s = .next (heard.count ctrLateDone)))
    ∧ (8 ≤ a.toNat % 16 → exec (.doneTaken (senderCode k) jar a b) s = .next heard)

/-- Refresh: while it is enabled, a DONE heard from `k` joins the refresh set of every PARKED peer, and a
PARKED peer returns to LIVE with its lapse count at 0 exactly when its set then holds itself, this station
and every other LIVE peer; no other field of any peer changes, and while it is disabled no peer changes but
its sender, as heard (R78, R79). That the row notes the sender as heard is the model's reading, log entry 6. -/
def Obligations.RefreshReturns : Prop :=
  (∀ (s : State) (k : Station) (jar : Word) (a b : Byte), s.hears k → s.cfg.refresh = false →
    ¬ (s.peer k).setApart →
    ∃ t : State, exec (.doneTaken (senderCode k) jar a b) s = .next t ∧
      ∀ p : Station, t.peer p = if p = k then (s.peer k).heard s.clk.n else s.peer p)
  ∧ ∀ (s : State) (k : Station) (jar : Word) (a b : Byte), s.hears k → 1 ≤ s.cfg.number → s.cfg.number ≤ 8 →
    s.cfg.refresh = true → ¬ (s.peer k).setApart →
    ∃ t : State, exec (.doneTaken (senderCode k) jar a b) s = .next t ∧
      ∀ p : Station,
        let q : Peer := if p = k then (s.peer k).heard s.clk.n else s.peer p
        (∀ r : BitVec 8, q.st = .parked r →
          let grown : BitVec 8 := r ||| BitVec.twoPow 8 k.val
          let passes := grown.getLsbD p.val = true ∧ grown.getLsbD s.cfg.own.val = true
            ∧ ∀ x : Station, x ≠ p → (s.peer x).st = .live → grown.getLsbD x.val = true
          (passes → t.peer p = { q with st := .live, lapses := 0 })
          ∧ (¬ passes → t.peer p = { q with st := .parked grown }))
        ∧ ((∀ r : BitVec 8, q.st ≠ .parked r) → t.peer p = q)

/-- A STEAM: a zero length is ignored; the short flag sets the mark; a draw in progress, or one pitch ahead,
replaces its sender's entry, and an ended one makes none; outside RUN and WITHDRAWN none is taken (R126,
R127). What the row is, is the model's reading, log entry 6. -/
def Obligations.SteamTaken : Prop :=
  ∀ (s : State) (k : Station) (jar : Word) (a b : Byte),
    (s.hears k → ¬ (s.peer k).setApart →
      let heard : State := s.putPeer k ((s.peer k).heard s.clk.n)
      let age := (s.clk.n - jar).toNat
      let running := age < a.toNat ∨ age = 65535
      (a = 0 → exec (.steamTaken (senderCode k) jar a b) s = .next heard)
      ∧ (a ≠ 0 → running → exec (.steamTaken (senderCode k) jar a b) s
        = .next
            { heard with
              steam :=
                { s.steam with
                  shortHeard := s.steam.shortHeard || b.getLsbD 0
                  draws := s.steam.draws.filter (fun d => d.station != k) ++ [⟨k, jar, a⟩] } })
      ∧ (a ≠ 0 → ¬ running → exec (.steamTaken (senderCode k) jar a b) s
        = .next
            { heard with steam := { s.steam with shortHeard := s.steam.shortHeard || b.getLsbD 0 } }))
    ∧ (s.inRun = false → exec (.steamTaken (senderCode k) jar a b) s = .next s)

/-- A WITHDRAW makes its sender WITHDRAWN from ABSENT, LIVE or PARKED and reopens the records that name it;
from a peer already WITHDRAWN it changes no standing (R62, R80). What the row is, is the model's reading, log
entry 6, and that a sender which is not LIVE has its records reopened too is log entry 18. -/
def Obligations.WithdrawTaken : Prop :=
  ∀ (s : State) (k : Station) (a : Byte), s.hears k →
    (∀ r : BitVec 8, (s.peer k).st = .absent ∨ (s.peer k).st = .live ∨ (s.peer k).st = .parked r →
      exec (.withdrawTaken (senderCode k) a) s
        = .next
            ({ s with
              track := s.track.map (fun (x : Jar) =>
                if x.heldBy k then { x with st := .openJar, reopened := true } else x) }.putPeer k
              { s.peer k with st := .withdrawn, skew := 0, lastHeard := some s.clk.n }))
    ∧ ((s.peer k).st = .withdrawn →
      exec (.withdrawTaken (senderCode k) a) s = .next (s.putPeer k ((s.peer k).heard s.clk.n)))

/-! ### Station control -/

/-- The START check judges the image by the 31 checks of the table in their order: it answers 0 exactly when
all hold, and otherwise the number of the first that fails. Checks 29 to 31 fail with gate role alone
(R168). -/
def Obligations.StartCheckFirst : Prop :=
  ∀ i : Image,
    let checks : List Prop :=
      [1 ≤ i.number ∧ i.number ≤ 8, 3 ≤ i.pitchBit.toNat ∧ i.pitchBit.toNat ≤ 12, i.edge.toNat ≤ 2,
        1 ≤ i.entryOffset ∧ i.entryOffset ≤ 40, 5 ≤ i.window ∧ i.window ≤ 16, i.probeOffset ≤ 6,
        1 ≤ i.claimLead ∧ i.claimLead ≤ 8, i.claimLead < i.entryOffset,
        i.entryOffset + i.window + i.probeOffset ≤ 62, 1 ≤ i.commitLimit ∧ i.commitLimit ≤ 4,
        i.returnPitches ≤ 8, 1 ≤ i.flushBase ∧ i.flushBase ≤ 4, 1 ≤ i.driveBase ∧ i.driveBase ≤ 4,
        i.holdBase ≤ 3, 3 + i.flushBase + i.driveBase + i.holdBase ≤ i.window, i.pickRetries ≤ 3,
        i.sharePhase ≤ 7, 1 ≤ i.steamLimit ∧ i.steamLimit ≤ 8, i.fairness ≤ 15,
        1 ≤ i.parkLimit ∧ i.parkLimit ≤ 7, i.retryCode ≤ 3, i.tempBase ≤ 254,
        1 ≤ i.bandWidth ∧ i.bandWidth ≤ 32, 1 ≤ i.seatThreshold, i.tolUnder ≤ 63, i.tolOver ≤ 63,
        i.deflectFull ≤ 4095, i.deflectShort ≤ 4095,
        i.gateRole = true → 1 ≤ i.bankExit ∧ i.bankExit ≤ 62,
        i.gateRole = true → i.entryOffset + i.window + i.probeOffset ≤ i.bankExit,
        i.gateRole = true → i.bankExit < i.gateOffset ∧ i.gateOffset ≤ 250]
    (startCheck i = 0 ↔ ∀ p ∈ checks, p)
    ∧ (∀ (n : Nat) (p : Prop), checks[n]? = some p →
        (startCheck i = n + 1 ↔ ¬ p ∧ ∀ q ∈ checks.take n, q))
    ∧ startCheck i ≤ 31

/-- The stage plan of R104: the total is the planned one, cut to W; the base lengths are kept; the trim takes
HOLD extras first, then DRIVE, FLUSH and ENGAGE extras, each only when the ones before it are at 0; the
effective retries are the smaller of the configured ones and xe'. -/
def Obligations.StagePlanTrimmed : Prop :=
  ∀ i : Image, 3 + i.flushBase + i.driveBase + i.holdBase ≤ i.window →
    let p := planOf i
    let wanted := 3 + i.flushBase + i.driveBase + i.holdBase + i.extraEngage + i.extraFlush + i.extraDrive
      + i.extraHold
    p.total = min wanted i.window
    ∧ p.total = p.engage + p.flush + 1 + p.drive + p.hold + 1
    ∧ 1 ≤ p.engage ∧ p.engage ≤ 1 + i.extraEngage
    ∧ i.flushBase ≤ p.flush ∧ p.flush ≤ i.flushBase + i.extraFlush
    ∧ i.driveBase ≤ p.drive ∧ p.drive ≤ i.driveBase + i.extraDrive
    ∧ i.holdBase ≤ p.hold ∧ p.hold ≤ i.holdBase + i.extraHold
    ∧ (p.drive < i.driveBase + i.extraDrive → p.hold = i.holdBase)
    ∧ (p.flush < i.flushBase + i.extraFlush → p.drive = i.driveBase)
    ∧ (p.engage < 1 + i.extraEngage → p.flush = i.flushBase)
    ∧ p.retries = min i.pickRetries (p.engage - 1)

/-- A START attempt in STANDBY: HEAD_FAULT leads to FAULT; a failing check is recorded and nothing else
changes; a passing one takes the settings, resets the run state of every block, enters RUN and queues the
HELLO, with E and E + W + Q in its jar field, k and the edge code in payload A, S and gate role in payload
B; JAM asserted then withdraws the station in the same action, with the WITHDRAW behind the HELLO. A rising
RUN_EN in another state is not taken (R15, R36, R43, R87, R102, R104, R125, R134, R162, R169, R170, R172,
R173). The row is the rising edge, log entry 11; the withdraw reason and the quiet time in FAULT are log
entries 16 and 26, the values of the head beyond the table of R125 log entry 19, and the frame left on the
line log entry 21. -/
def Obligations.StartAttempt : Prop :=
  (∀ i : Image,
      (helloFrame i).kind = .hello
      ∧ (helloFrame i).jar.toNat = 256 * i[4].toNat + (i[4].toNat + i[5].toNat + i[6].toNat) % 256
      ∧ (helloFrame i).payA.toNat = i[2].toNat % 64
      ∧ (helloFrame i).payB.toNat = i[17].toNat % 16 + 128 * (i[1].toNat % 2))
  ∧ (∀ (cap : Bool) (s : State),
      let i := s.ctl.image
      let up : State := { s with pins := { s.pins with runEn := true } }
      let away := cap = false ∧ i.returnPitches ≠ 0
      (s.ctl.mode = .standby → s.pins.headFault = true →
        ∃ t : State, exec (.startAttempt cap) s = .next t
          ∧ t.ctl = { s.ctl with
              mode := .fault, faultCause := some .headAtStart, withdrawReason := none }
          ∧ t.line = ⟨[], none, 0, .stopped, 0⟩ ∧ t.track = [] ∧ t.steam.draws = []
          ∧ t.gate = ⟨[], false, .pass⟩ ∧ t.head = Head.idle s.head.plan ∧ t.peers = s.peers)
      ∧ (s.ctl.mode = .standby → s.pins.headFault = false → startCheck i ≠ 0 →
        exec (.startAttempt cap) s
          = .next { up with ctl := { s.ctl with startRefused := startCheck i } })
      ∧ (s.ctl.mode = .standby → s.pins.headFault = false → s.pins.jam = false → startCheck i = 0 →
        exec (.startAttempt cap) s
          = .next
              { up with
                ctl :=
                  { s.ctl with
                    mode := .run, taken := i, startRefused := 0, stopCause := .noStop
                    withdrawReason := none }
                clk := ⟨s.clk.phase, 0, 0, 0⟩
                track := []
                claims := ⟨0, if away then i.returnPitches else 0⟩
                peers := ⟨Vector.replicate 8 ⟨.absent, none, 0, 0, none⟩, false, false⟩
                head :=
                  { Head.idle (planOf i) with
                    chuck := if away then .returning else .ready
                    returnLeft := if away then i.returnPitches else 0 }
                steam := ⟨[], 0, false⟩
                gate := ⟨[], false, .pass⟩
                line :=
                  { s.line with
                    queue := [helloFrame i]
                    retries := 0
                    sending := s.line.sending.map (fun x => { x with detached := true }) } })
      ∧ (s.ctl.mode ≠ .standby → exec (.startAttempt cap) s = .next up))
  ∧ ∀ (cap : Bool) (s : State),
      s.ctl.mode = .standby → s.pins.headFault = false → s.pins.jam = true → startCheck s.ctl.image = 0 →
        ∃ t : State, exec (.startAttempt cap) s = .next t
          ∧ t.ctl.mode = .withdrawn ∧ t.ctl.withdrawReason = some .jam ∧ t.ctl.taken = s.ctl.image
          ∧ t.line.queue = [helloFrame s.ctl.image, ⟨.withdraw, 0, 2, 0⟩]
          ∧ t.track = [] ∧ t.claims.openClaims = 0 ∧ t.faultLamp = true

/-- RUN_STOP in RUN or WITHDRAWN: the cause, STANDBY, the purge, the abort of a cycle in flight, the pruned
queue; the counts, the peer table and the settings are kept. In another state only the level falls (R16,
R37, R67, R100, R124, R133, R162, R171). The row is the falling edge, log entry 11, and the values of the head
beyond the table of R125 are log entry 19. -/
def Obligations.RunStopPurges : Prop :=
  ∀ s : State,
    (s.inRun = true → ∃ t : State, exec .runStop s = .next t
      ∧ t.ctl = { s.ctl with mode := .standby, stopCause := .runEn, withdrawReason := none }
      ∧ t.pins = { s.pins with runEn := false }
      ∧ t.clk = s.clk ∧ t.peers = s.peers ∧ t.verdicts = s.verdicts ∧ t.port = s.port
      ∧ t.pending = s.pending ∧ t.track = [] ∧ t.claims = ⟨0, 0⟩
      ∧ t.head = Head.idle s.head.plan ∧ t.gate = ⟨[], false, .pass⟩
      ∧ t.steam = { s.steam with draws := [] }
      ∧ t.line = s.line.withdrawFrames (fun (f : TxFrame) =>
          f.kind == .claim || f.kind == .release || f.kind == .steam)
      ∧ t.counters
        = (if s.head.chuck = .ready ∨ s.head.chuck = .returning then s.counters
            else (s.count ctrAborted).counters)
      ∧ t.chuckDn = false ∧ t.steamV = false ∧ t.spindle = false ∧ t.gatePin = .pass
      ∧ t.faultLamp = false)
    ∧ (s.inRun = false → exec .runStop s = .next { s with pins := { s.pins with runEn := false } })

/-- HEAD_FAULT or JAM asserted in RUN with a record in the chuck: the record is given back, a RELEASE and
then the WITHDRAW are queued, the unsent CLAIMs removed, an abort is counted, the chuck lifts, own claims
reopen, and the station is WITHDRAWN with its lamp on. With the record gone from the chuck the station
withdraws and nothing else of the head moves. A fall, and an assertion outside RUN, changes the level alone.
CAP_LOW is a level, and STARVED reads set exactly while it is asserted in RUN (R24, R57, R66, R92, R122,
R123, R172, R174). That these rows carry the level, so that a fall is a command too, is log entry 15; the
drive phase and the head's other values after a give-up are the model's choice, log entry 19. -/
def Obligations.HeadInputs : Prop :=
  (∀ (s : State) (input : FaultInput) (level : Bool),
      let raised : State :=
        { s with pins := match input with
          | .headFault => { s.pins with headFault := level }
          | .jam => { s.pins with jam := level } }
      let reason : Byte := match input with
        | .headFault => 1
        | .jam => 2
      let withdrawn (u : State) (head : Head) : State :=
        { u with
          ctl := { s.ctl with mode := .withdrawn, withdrawReason := some input }
          track := claimsReopened u.track
          claims := { s.claims with openClaims := 0 }
          head := head
          line := u.line.withdrawFrames (fun (f : TxFrame) => f.kind == Kind.claim) }.enqueue
            ⟨.withdraw, 0, reason, 0⟩
      (∀ (pre post : List Jar) (j : Jar) (m : Measurements), level = true → s.ctl.mode = .run →
        s.holds pre j post → s.head.cyclePitch = some j.pitch → j.st = .inChuck m →
        let freed : State :=
          ({ raised with track := pre ++ j.givenBack :: post }.enqueue ⟨.release, j.pitch, 0, 0⟩).count
            ctrAborted
        (s.head.chuck ∈ [Chuck.engage, .flush, .seat, .drive, .hold] →
          let t : State :=
            withdrawn freed
              { s.head with phase := .idle, chuck := .lift, cyclePitch := none, valveLeft := 0 }
          exec (.headFaultJam input level) s = .next t
            ∧ t.levels = (false, false, false) ∧ t.faultLamp = true)
        ∧ (s.head.chuck = .lift →
          exec (.headFaultJam input level) s
            = .next (withdrawn freed { s.head with cyclePitch := none, valveLeft := 0 })))
      ∧ (level = true → s.ctl.mode = .run →
        s.head.chuck = .ready ∨ s.head.chuck = .returning
          ∨ (s.head.chuck = .lift ∧ s.head.cyclePitch = none) →
        exec (.headFaultJam input level) s = .next (withdrawn raised s.head))
      ∧ (level = false ∨ s.ctl.mode ≠ .run → exec (.headFaultJam input level) s = .next raised))
  ∧ ∀ (s : State) (level : Bool), ∃ t : State, exec (.capLow level) s = .next t
      ∧ t = { s with pins := { s.pins with capLow := level } }
      ∧ (t.starved = true ↔ level = true ∧ s.ctl.mode = .run)

/-- An answered block of an autoload. A block of settings is stored in its place in the image; block 3 ends
the settings and brings the first entry of the profile; a profile block commits three entries at the torque
pointer, each amax raised to its amin; block 8 ends with LOAD_OK and STANDBY (R137, R138, R164, R165). -/
def Obligations.AutoloadStores : Prop :=
  ∀ (s : State) (d : Vector Byte 9), s.ctl.mode = .loading →
    let entry (x y z : Byte) : ProfileEntry := ⟨x, y, if z.toNat < y.toNat then y else z⟩
    (s.ctl.loadBlock ≤ 2 → ∃ img : Image,
      exec (.autoloadBlock true d) s
        = .next
            { s with
              ctl :=
                { s.ctl with image := img, loadBlock := s.ctl.loadBlock + 1, portSilent := false } }
      ∧ ∀ i : Fin 33, img.get i
          = if h : 9 * s.ctl.loadBlock ≤ i.val ∧ i.val < 9 * s.ctl.loadBlock + 9 then
              d.get ⟨i.val - 9 * s.ctl.loadBlock, by omega⟩
            else s.ctl.image.get i)
    ∧ (s.ctl.loadBlock = 3 → s.verdicts.part = 0 → s.verdicts.stagedTarget = none →
      s.verdicts.stagedAmin = none → ∃ img : Image,
      exec (.autoloadBlock true d) s
        = .next
            { s with
              ctl := { s.ctl with image := img, loadBlock := 4, portSilent := false }
              verdicts :=
                { s.verdicts with
                  profile := s.verdicts.profile.set s.verdicts.band.val (entry d[6] d[7] d[8])
                    s.verdicts.band.isLt
                  band := s.verdicts.band + 1 } }
      ∧ ∀ i : Fin 33, img.get i
          = if h : 27 ≤ i.val then d.get ⟨i.val - 27, by omega⟩ else s.ctl.image.get i)
    ∧ (4 ≤ s.ctl.loadBlock → s.ctl.loadBlock ≤ 8 → s.verdicts.part = 0 →
      s.verdicts.stagedTarget = none → s.verdicts.stagedAmin = none →
      let b := s.verdicts.band
      let stored : State :=
        { s with
          ctl := { s.ctl with portSilent := false }
          verdicts :=
            { s.verdicts with
              profile := ((s.verdicts.profile.set b.val (entry d[0] d[1] d[2]) b.isLt).set (b + 1).val
                (entry d[3] d[4] d[5]) (b + 1).isLt).set (b + 2).val (entry d[6] d[7] d[8]) (b + 2).isLt
              band := b + 3 } }
      (s.ctl.loadBlock < 8 → exec (.autoloadBlock true d) s
        = .next { stored with ctl := { stored.ctl with loadBlock := s.ctl.loadBlock + 1 } })
      ∧ (s.ctl.loadBlock = 8 → exec (.autoloadBlock true d) s
        = .next { stored with ctl := { stored.ctl with mode := .standby, outcome := .loadOk } }))

/-- A block that is not acknowledged ends the autoload: NO_MEMORY at block 0 and SHORT_IMAGE later, with what
was read kept, and STANDBY. Outside LOADING no block is requested (R165). -/
def Obligations.AutoloadEnds : Prop :=
  ∀ (s : State) (d : Vector Byte 9) (ack : Bool),
    (s.ctl.mode = .loading → s.ctl.loadBlock = 0 → exec (.autoloadBlock false d) s
      = .next
          { s with ctl := { s.ctl with mode := .standby, outcome := .noMemory, portSilent := false } })
    ∧ (s.ctl.mode = .loading → 0 < s.ctl.loadBlock → exec (.autoloadBlock false d) s
      = .next
          { s with ctl := { s.ctl with mode := .standby, outcome := .shortImage, portSilent := false } })
    ∧ (s.ctl.mode ≠ .loading → exec (.autoloadBlock ack d) s = .next s)

/-! ### The service port -/

/-- A transaction that the port does not answer, by another address or in the silent span, has no effect on
the station; it ends the port's own write transaction, which is the model's record of the bus (log entry 3)
(R175). -/
def Obligations.ServiceUnaddressed : Prop :=
  ∀ (s : State) (target : BitVec 7) (item value : Byte) (view : ViewItem), ¬ s.addressed target →
    ∀ i ∈ [Instr.itemNumberWrite target item, .torquePointerWrite target value,
        .torqueDataWrite target value, .torqueDataRead target, .highByteRead target, .clear target,
        .reload target, .peerViewSelect target value, .snapshotRequest target value,
        .gateQueueViewRequest target value, .viewDataRead target view],
      exec i s = .next { s with port := { s.port with writing := false, acked := false } }

/-- ITEM_NUMBER_WRITE sets the item pointer and is acknowledged in every station state; a SERVICE_WRITE of
an image item is stored in STANDBY, acknowledged, clears ACCESS_REFUSED and moves the pointer on, and is
refused in any other state with ACCESS_REFUSED set and nothing else changed; so is a write to a read-only or
unnumbered item, and a command byte other than 1 and 2; at each other writable item it does what the row of
that item does. A data byte outside a write transaction of this port has no effect (R164, R175, R177, R178,
R179). What the rows of the port are, and its record of an open transaction and of the acknowledgement, is
the model's choice, log entry 3. -/
def Obligations.ItemWrites : Prop :=
  ∀ (s : State) (target : BitVec 7) (item value : Byte),
    (s.addressed target → exec (.itemNumberWrite target item) s
      = .next { s with port := { s.port with pointer := item, writing := true, acked := true } })
    ∧ (s.port.writing = false → exec (.serviceWrite value) s = .next s)
    ∧ (s.port.writing = true →
      (∀ i : Fin 33, s.port.pointer.toNat = 0x10 + i.val →
        (s.ctl.mode = .standby → exec (.serviceWrite value) s
          = .next
              { s with
                ctl := { s.ctl with image := s.ctl.image.set i.val value i.isLt }
                port :=
                  { s.port with
                    pointer := s.port.pointer + 1, acked := true, accessRefused := false } })
        ∧ (s.ctl.mode ≠ .standby → exec (.serviceWrite value) s
          = .next { s with port := { s.port with acked := false, accessRefused := true } }))
      ∧ (s.port.pointer.toNat < 0x10 ∨ (0x31 ≤ s.port.pointer.toNat ∧ s.port.pointer.toNat ≤ 0x37)
          ∨ (0x3A ≤ s.port.pointer.toNat ∧ s.port.pointer.toNat ≤ 0x3F)
          ∨ (0x41 ≤ s.port.pointer.toNat ∧ s.port.pointer.toNat ≤ 0xBF)
          ∨ s.port.pointer ∈ [0xC1#8, 0xC2, 0xC3, 0xC5] ∨ 0xC7 ≤ s.port.pointer.toNat
          ∨ (s.port.pointer = 0x40 ∧ value ≠ 1 ∧ value ≠ 2) →
        exec (.serviceWrite value) s
          = .next { s with port := { s.port with acked := false, accessRefused := true } })
      ∧ (s.addressed target →
        (s.port.pointer = 0x38 → exec (.serviceWrite value) s = exec (.torquePointerWrite target value) s)
        ∧ (s.port.pointer = 0x39 → exec (.serviceWrite value) s = exec (.torqueDataWrite target value) s)
        ∧ (s.port.pointer = 0x40 → value = 1 → exec (.serviceWrite value) s = exec (.clear target) s)
        ∧ (s.port.pointer = 0x40 → value = 2 → exec (.serviceWrite value) s = exec (.reload target) s)
        ∧ (s.port.pointer = 0xC0 → exec (.serviceWrite value) s = exec (.peerViewSelect target value) s)
        ∧ (s.port.pointer = 0xC4 → exec (.serviceWrite value) s = exec (.snapshotRequest target value) s)
        ∧ (s.port.pointer = 0xC6 →
          exec (.serviceWrite value) s = exec (.gateQueueViewRequest target value) s)))

/-- The torque table is written through its pointer in STANDBY alone: a pointer write takes band and part, a
part above 2 as 0; parts 0 and 1 are staged; part 2 commits the entry, amax raised to amin, and moves to the
next band. In any other state both writes are refused (R137, R138, R175, R178). That each row is a whole
write of its item is log entry 3. -/
def Obligations.TorqueTableWrites : Prop :=
  ∀ (s : State) (target : BitVec 7) (v : Byte), s.addressed target →
    let u := s.verdicts
    let old := u.profile.get u.band
    let amin := u.stagedAmin.getD old.amin
    (s.ctl.mode = .standby →
      (∃ (band : Fin 16) (part : Fin 3), exec (.torquePointerWrite target v) s
          = .next
              { s with
                verdicts :=
                  { u with band := band, part := part, stagedTarget := none, stagedAmin := none }
                port := s.port.accepted 0x39 }
        ∧ band.val = v.toNat % 16
        ∧ part.val = if v.toNat / 16 % 4 ≤ 2 then v.toNat / 16 % 4 else 0)
      ∧ (u.part = 0 → exec (.torqueDataWrite target v) s
        = .next
            { s with
              verdicts := { u with stagedTarget := some v, part := 1 }
              port := s.port.accepted 0x39 })
      ∧ (u.part = 1 → exec (.torqueDataWrite target v) s
        = .next
            { s with
              verdicts := { u with stagedAmin := some v, part := 2 }
              port := s.port.accepted 0x39 })
      ∧ (u.part = 2 → exec (.torqueDataWrite target v) s
        = .next
            { s with
              verdicts :=
                { profile := u.profile.set u.band.val
                    ⟨u.stagedTarget.getD old.target, amin, if v.toNat < amin.toNat then amin else v⟩
                    u.band.isLt
                  band := u.band + 1, part := 0, stagedTarget := none, stagedAmin := none }
              port := s.port.accepted 0x39 }))
    ∧ (s.ctl.mode ≠ .standby →
      exec (.torquePointerWrite target v) s = .next { s with port := s.port.refused 0x38 }
      ∧ exec (.torqueDataWrite target v) s = .next { s with port := s.port.refused 0x39 })

/-- A read of the torque data, in every station state, returns the committed part at the pointer, discards
the staged parts and moves the pointer by one part, band 15 followed by band 0 (R137, R178). That the row is
a whole read of its item is log entry 3. -/
def Obligations.TorqueTableRead : Prop :=
  ∀ (s : State) (target : BitVec 7), s.addressed target →
    let u := s.verdicts
    let e := u.profile.get u.band
    let port (out : Byte) : Port :=
      { s.port with
        pointer := 0x39, writing := false, acked := true, dataOut := out, latch := none }
    let moved (band : Fin 16) (part : Fin 3) : VerdictUnit :=
      { u with band := band, part := part, stagedTarget := none, stagedAmin := none }
    (u.part = 0 → exec (.torqueDataRead target) s
      = .next { s with verdicts := moved u.band 1, port := port e.target })
    ∧ (u.part = 1 → exec (.torqueDataRead target) s
      = .next { s with verdicts := moved u.band 2, port := port e.amin })
    ∧ (u.part = 2 → exec (.torqueDataRead target) s
      = .next { s with verdicts := moved (u.band + 1) 0, port := port e.amax })

/-- A two-byte item, N or a counter, read high byte first is one value: the high byte's read latches the low
byte, and the read of the next item returns the latched byte while the latch stands, whatever the value has
become; without the latch a low byte is the current one (R175, R176, R180). That the row is a read at the
pointer is log entry 3, and what clears the latch is log entry 25, both the model's. -/
def Obligations.HighByteLatches : Prop :=
  ∀ (s s' : State) (target : BitVec 7) (w w' : Word), s.addressed target →
    (s.port.pointer = 4 ∧ w = s.clk.n ∧ w' = s'.clk.n)
      ∨ (∃ i : Fin 30, s.port.pointer.toNat = 0x80 + 2 * i.val ∧ w = s.counters.get i
          ∧ w' = s'.counters.get i) →
    ∃ t : State, exec (.highByteRead target) s = .next t
      ∧ t.port.dataOut = hiByte w
      ∧ t.port.pointer = s.port.pointer + 1
      ∧ t = { s with port := t.port } ∧ t.port.acked = true
      ∧ (s'.addressed target → s'.port.pointer = t.port.pointer →
        (s'.port.latch = t.port.latch → ∃ u : State, exec (.highByteRead target) s' = .next u
          ∧ u.port.dataOut = loByte w ∧ u.port.latch = none)
        ∧ (s'.port.latch = none → ∃ u : State, exec (.highByteRead target) s' = .next u
          ∧ u.port.dataOut = loByte w'))

/-- The items as a read returns them. Status: station state, outcome and run-stop cause; the failing check;
the flags with the withdraw reason; the fault cause; a read clears none of them. An image item returns its
byte, 0x38 the torque pointer, 0x3A to 0x3F the stage plan, and an unnumbered or write-only item returns 0
and leaves ACCESS_REFUSED as it stands (R164, R175, R176, R178). That the row reads every item is log entry
3, and that any of these reads clears the latch is log entry 25, both the model's. -/
def Obligations.ItemsRead : Prop :=
  (∀ (s : State) (target : BitVec 7), s.addressed target → s.port.pointer.toNat ≤ 3 →
    s.ctl.startRefused ≤ 31 →
    ∃ t : State, exec (.highByteRead target) s = .next t
      ∧ t = { s with port := t.port } ∧ t.port.pointer = s.port.pointer + 1
      ∧ t.port.accessRefused = s.port.accessRefused
      ∧ (s.port.pointer = 0 → t.port.dataOut.toNat
          = (match s.ctl.mode with
              | .loading => 0 | .standby => 1 | .run => 2 | .withdrawn => 3 | .fault => 4)
            + 16 * (match s.ctl.outcome with
              | .notRun => 0 | .loadOk => 1 | .noMemory => 2 | .shortImage => 3)
            + 64 * (match s.ctl.stopCause with
              | .noStop => 0 | .runEn => 1 | .reverse => 2))
      ∧ (s.port.pointer = 1 → t.port.dataOut.toNat = s.ctl.startRefused)
      ∧ (s.port.pointer = 2 →
          t.port.dataOut.getLsbD 0 = s.peers.gateConflict
          ∧ t.port.dataOut.getLsbD 1 = s.peers.gateShort
          ∧ t.port.dataOut.getLsbD 2 = (decide (s.ctl.mode = .run) && s.pins.capLow)
          ∧ t.port.dataOut.getLsbD 3 = s.gate.flood
          ∧ t.port.dataOut.getLsbD 4 = s.port.accessRefused
          ∧ t.port.dataOut.getLsbD 5 = decide (s.ctl.withdrawReason = some .headFault)
          ∧ t.port.dataOut.getLsbD 6 = decide (s.ctl.withdrawReason = some .jam)
          ∧ t.port.dataOut.getLsbD 7 = false)
      ∧ (s.port.pointer = 3 → t.port.dataOut.toNat
          = match s.ctl.faultCause with
            | none => 0 | some .duplicateId => 1 | some .headAtStart => 2))
  ∧ ∀ (s : State) (target : BitVec 7), s.addressed target →
    let read (out : Byte) : State :=
      { s with
        port :=
          { s.port with
            pointer := s.port.pointer + 1, writing := false, acked := true, dataOut := out, latch := none } }
    (∀ i : Fin 33, s.port.pointer.toNat = 0x10 + i.val →
      exec (.highByteRead target) s = .next (read (s.ctl.image.get i)))
    ∧ (s.port.pointer = 0x38 →
      exec (.highByteRead target) s
        = .next (read (BitVec.ofNat 8 (s.verdicts.band.val + 16 * s.verdicts.part.val))))
    ∧ (∀ (i : Nat) (x : Nat),
      [s.head.plan.engage, s.head.plan.flush, s.head.plan.drive, s.head.plan.hold, s.head.plan.total,
        s.head.plan.retries][i]? = some x →
      s.port.pointer.toNat = 0x3A + i → exec (.highByteRead target) s = .next (read (BitVec.ofNat 8 x)))
    ∧ (s.port.pointer ∈ [0x40#8, 0xC0, 0xC2, 0xC3, 0xC4, 0xC6]
        ∨ (6 ≤ s.port.pointer.toNat ∧ s.port.pointer.toNat ≤ 0x0F)
        ∨ (0x31 ≤ s.port.pointer.toNat ∧ s.port.pointer.toNat ≤ 0x37)
        ∨ (0x41 ≤ s.port.pointer.toNat ∧ s.port.pointer.toNat ≤ 0x7F)
        ∨ (0xBC ≤ s.port.pointer.toNat ∧ s.port.pointer.toNat ≤ 0xBF) ∨ 0xC8 ≤ s.port.pointer.toNat →
      exec (.highByteRead target) s = .next (read 0))

/-- CLEAR sets every counter to 0 and changes nothing else of the station, in every state but FAULT; RELOAD
in STANDBY begins autoload with image and profile zero and keeps the rest; in FAULT both are refused, and
RELOAD is refused outside STANDBY. The outcome shown until that autoload ends is open (log entry 1). That
each row is a whole write, with the pointer and the transaction it leaves, is the model's choice, log entry
3 (R139, R165, R179). -/
def Obligations.ClearAndReload : Prop :=
  ∀ (s : State) (target : BitVec 7), s.addressed target →
    (s.ctl.mode ≠ .fault → exec (.clear target) s
      = .next { s with counters := Vector.replicate 30 0, port := s.port.accepted 0x41 })
    ∧ (s.ctl.mode = .fault → exec (.clear target) s = .next { s with port := s.port.refused 0x40 })
    ∧ (s.ctl.mode = .standby → ∃ o : AutoloadOutcome, exec (.reload target) s
      = .next
          { s with
            ctl :=
              { s.ctl with
                mode := .loading, image := Vector.replicate 33 0, loadBlock := 0, outcome := o }
            verdicts := ⟨Vector.replicate 16 ⟨0, 0, 0⟩, 0, 0, none, none⟩
            port := s.port.accepted 0x41 })
    ∧ (s.ctl.mode ≠ .standby → exec (.reload target) s = .next { s with port := s.port.refused 0x40 })

/-- A view request copies the peer record, the track or the gate queue as it stands, byte for byte by the
table of R177, with the index at 0, and changes nothing else, in every state but FAULT; a peer number
outside 1 to 8 is refused (R40, R83, R163, R177). The rows of the table are `peerRow`, `trackRow` and
`gateRow`. That each row is a whole write of its item is the model's choice, log entry 3, and that a
two-byte field has its high byte first, where R177 gives no order, is log entry 31. -/
def Obligations.ViewRequests : Prop :=
  ∀ (s : State) (target : BitVec 7) (v : Byte), s.addressed target →
    (s.ctl.mode ≠ .fault →
      (∀ k : Station, v.toNat = stationNum k → exec (.peerViewSelect target v) s
        = .next
            { s with
              port :=
                { s.port.accepted 0xC1 with
                  peerView := ⟨peerRow (decide (s.cfg.number = stationNum k)) (s.peer k), 0⟩ } })
      ∧ (v.toNat = 0 ∨ 9 ≤ v.toNat →
        exec (.peerViewSelect target v) s = .next { s with port := s.port.refused 0xC0 })
      ∧ exec (.snapshotRequest target v) s
        = .next
            { s with
              port :=
                { s.port.accepted 0xC5 with
                  trackView :=
                    ⟨BitVec.ofNat 8 s.track.length :: twoBytes s.clk.n.toNat
                      ++ s.track.flatMap (trackRow s.cfg.number s.clk.n), 0⟩ } }
      ∧ (s.cfg.gateRole = true → exec (.gateQueueViewRequest target v) s
        = .next
            { s with
              port :=
                { s.port.accepted 0xC7 with
                  gateView :=
                    ⟨[BitVec.ofNat 8 s.gate.queue.length, if s.gate.flood = true then 1 else 0]
                      ++ twoBytes s.clk.n.toNat ++ s.gate.queue.flatMap (gateRow s.cfg.gateOffset s.clk.n),
                      0⟩ } })
      ∧ (s.cfg.gateRole = false → exec (.gateQueueViewRequest target v) s
        = .next
            { s with
              port :=
                { s.port.accepted 0xC7 with
                  gateView := ⟨[0, if s.gate.flood = true then 1 else 0] ++ twoBytes s.clk.n.toNat, 0⟩ } }))
    ∧ (s.ctl.mode = .fault →
      exec (.peerViewSelect target v) s = .next { s with port := s.port.refused 0xC0 }
      ∧ exec (.snapshotRequest target v) s = .next { s with port := s.port.refused 0xC4 }
      ∧ exec (.gateQueueViewRequest target v) s = .next { s with port := s.port.refused 0xC6 })

/-- A read of a view's data returns the byte at its index and moves the index on; past the end it returns 0
and the index holds; the item pointer stays on the data item, and no state but the port changes (R175,
R177). That the row is a whole read of its item, which puts the pointer there, is the model's choice, log
entry 3. -/
def Obligations.ViewDataRead : Prop :=
  ∀ (s : State) (target : BitVec 7), s.addressed target →
    let port (item out : Byte) : Port :=
      { s.port with
        pointer := item, writing := false, acked := true, dataOut := out, latch := none }
    let moved (w : View) : View := ⟨w.bytes, min w.bytes.length (w.index + 1)⟩
    let byte (w : View) : Byte := (w.bytes[w.index]?).getD 0
    exec (.viewDataRead target .peer) s
      = .next { s with port :=
          { port 0xC1 (byte s.port.peerView) with peerView := moved s.port.peerView } }
    ∧ exec (.viewDataRead target .track) s
      = .next { s with port :=
          { port 0xC5 (byte s.port.trackView) with trackView := moved s.port.trackView } }
    ∧ exec (.viewDataRead target .gateQueue) s
      = .next { s with port :=
          { port 0xC7 (byte s.port.gateView) with gateView := moved s.port.gateView } }

/-! ### Rules of the whole machine -/

/-- No counter falls or wraps but by CLEAR, power-up or RESET, which set every counter to 0 (R180). -/
def Obligations.CountersOnlyRise : Prop :=
  ∀ (c : Instr) (s t : State), exec c s = .next t →
    (∀ i : Fin 30, (s.counters.get i).toNat ≤ (t.counters.get i).toNat)
      ∨ ((∀ i : Fin 30, t.counters.get i = 0)
          ∧ ((∃ (straps : Straps) (pair : EncPair), c = .powerUp straps pair ∨ c = .resetPin straps pair)
            ∨ (∃ target : BitVec 7, c = .clear target) ∨ c = .serviceWrite 1))

/-- RUN is entered from STANDBY alone, WITHDRAWN from RUN or by START with JAM; FAULT is left by power-up or
RESET alone, and LOADING for STANDBY alone. Through a run the image, the profile table, the settings taken and
the stage plan stand as START took them (R104, R136, R164, R167, R173). -/
def Obligations.StatesMoveSettingsStand : Prop :=
  ∀ (c : Instr) (s t : State), exec c s = .next t →
    (s.inRun = true → t.inRun = true →
      t.ctl.image = s.ctl.image ∧ t.ctl.taken = s.ctl.taken ∧ t.verdicts.profile = s.verdicts.profile
        ∧ t.head.plan = s.head.plan)
    ∧ (t.ctl.mode = .run → s.ctl.mode = .run ∨ s.ctl.mode = .standby)
    ∧ (t.ctl.mode = .withdrawn →
        s.ctl.mode = .withdrawn ∨ s.ctl.mode = .run ∨ (s.ctl.mode = .standby ∧ s.pins.jam = true))
    ∧ (s.ctl.mode = .fault → t.ctl.mode = .fault
        ∨ ∃ (straps : Straps) (pair : EncPair), c = .powerUp straps pair ∨ c = .resetPin straps pair)
    ∧ (s.ctl.mode = .loading → t.ctl.mode = .loading ∨ t.ctl.mode = .standby)

/-- A record's verdict, once set, stands: in a sound track, whatever command comes, a DONE record that is
still in the track has the same verdict, source, disposition and measurements; and no record ever loses its
reopened or conflict flag, or changes its temperature or band (R18, R22, R23, R150). -/
def Obligations.VerdictStands : Prop :=
  ∀ (c : Instr) (s t : State), s.TrackLaw → exec c s = .next t →
    ∀ j ∈ s.track, ∀ j' ∈ t.track, j'.pitch = j.pitch →
      (j.isDone = true → j'.st = j.st)
      ∧ (j.reopened = true → j'.reopened = true) ∧ (j.conflict = true → j'.conflict = true)
      ∧ j'.temp = j.temp ∧ j'.band = j.band

/-! ### Laws that every step keeps -/

/-- A step keeps the transmit queue within 8 frames and FAULT silent, leaves nothing of a run behind outside
a run, and keeps every profile entry clamped and one draw a station (R37, R38, R92, R101, R124, R126, R133,
R138, R162). What the idle head holds beyond the table of R125 is the model's choice, log entry 19. -/
def Obligations.StandingLawsKept : Prop :=
  ∀ s t : State, step s = .next t →
    (s.LineLaw → t.LineLaw) ∧ (s.IdleLaw → t.IdleLaw) ∧ (s.ProfileLaw → t.ProfileLaw)
      ∧ (s.DrawLaw → t.DrawLaw)

/-- A step keeps H - C within the reverse allowance through a run: the down step that would break it ends the
run (R3, R4). -/
def Obligations.AllowanceLawKept : Prop :=
  ∀ s t : State, s.AllowanceLaw → step s = .next t → t.AllowanceLaw

/-- A step keeps every HELD_PEER record under a LIVE claimant (R62). -/
def Obligations.HeldLawKept : Prop :=
  ∀ s t : State, s.HeldLaw → step s = .next t → t.HeldLaw

/-- A step keeps the settings of a run fit, a LIVE peer's lapse count below the park limit and a PARKED
peer's equal to it (R76). -/
def Obligations.ParkLawKept : Prop :=
  ∀ s t : State, s.ConfigLaw → s.ParkLaw → step s = .next t → t.ConfigLaw ∧ t.ParkLaw

/-- A step keeps the track in order, one record a pitch, each below Rd, so never more than 63 (R33, R34). -/
def Obligations.TrackLawKept : Prop :=
  ∀ s t : State, s.ConfigLaw → s.TrackLaw → step s = .next t →
    t.TrackLaw ∧ (t.track.map Jar.pitch).Nodup ∧ t.track.length ≤ 63

/-- A step keeps the open-claim count equal to the number of own CLAIMED records, and within Cm (R42). -/
def Obligations.ClaimLawKept : Prop :=
  ∀ s t : State, s.ConfigLaw → s.TrackLaw → s.ClaimLaw → step s = .next t → t.ClaimLaw

/-- A step keeps the laws of the cycle together: two own records in CLAIMED or IN_CHUCK at least L + Rt
apart, and at most one record IN_CHUCK, there exactly while the chuck is in a cycle on it (R49, R108). -/
def Obligations.CycleLawKept : Prop := ∀ s t : State, s.CycleLaw → step s = .next t → t.CycleLaw

/-- A step keeps the gate queue within 32 entries, in order, no two for one pitch, each short of the gate,
and FLOOD only over a queue that is not empty (R157, R160). The bound on the distance to the gate is G, where
R154 says G - 1: the model's reading, log entry 22. -/
def Obligations.GateLawKept : Prop :=
  ∀ s t : State, s.ConfigLaw → s.TrackLaw → s.GateLaw → step s = .next t →
    t.GateLaw ∧ (t.gate.queue.map GateEntry.pitch).Nodup

/-- The station right after reset meets every law (R14, R39, R67, R82, R102, R125, R134, R139, R153, R162,
R165). What the idle head holds beyond the table of R125 is the model's choice, log entry 19, as are the
straps and the input levels of this state, log entry 5. -/
def Obligations.ResetMeetsLaws : Prop :=
  State.reset.ConfigLaw ∧ State.reset.AllowanceLaw ∧ State.reset.IdleLaw ∧ State.reset.LineLaw
    ∧ State.reset.ProfileLaw ∧ State.reset.DrawLaw ∧ State.reset.TrackLaw ∧ State.reset.ClaimLaw
    ∧ State.reset.SpacingLaw
    ∧ State.reset.ChuckLaw ∧ State.reset.HeldLaw ∧ State.reset.ParkLaw ∧ State.reset.GateLaw

end
end

