-- ==== Sys2Proof/Laws/State.lean ====
section
/-! SUPPORT. Each shared update, field by field: the fields that it does not touch read as before. -/

namespace Sys2Proof.Machine

variable (s : State)

/-! ### countBy -/

@[simp] theorem State.countBy_ctl (i : Fin 30) (k : Nat) : (s.countBy i k).ctl = s.ctl := rfl
@[simp] theorem State.countBy_pins (i : Fin 30) (k : Nat) : (s.countBy i k).pins = s.pins := rfl
@[simp] theorem State.countBy_clk (i : Fin 30) (k : Nat) : (s.countBy i k).clk = s.clk := rfl
@[simp] theorem State.countBy_track (i : Fin 30) (k : Nat) : (s.countBy i k).track = s.track := rfl
@[simp] theorem State.countBy_claims (i : Fin 30) (k : Nat) : (s.countBy i k).claims = s.claims := rfl
@[simp] theorem State.countBy_peers (i : Fin 30) (k : Nat) : (s.countBy i k).peers = s.peers := rfl
@[simp] theorem State.countBy_line (i : Fin 30) (k : Nat) : (s.countBy i k).line = s.line := rfl
@[simp] theorem State.countBy_head (i : Fin 30) (k : Nat) : (s.countBy i k).head = s.head := rfl
@[simp] theorem State.countBy_steam (i : Fin 30) (k : Nat) : (s.countBy i k).steam = s.steam := rfl
@[simp] theorem State.countBy_verdicts (i : Fin 30) (k : Nat) : (s.countBy i k).verdicts = s.verdicts := rfl
@[simp] theorem State.countBy_gate (i : Fin 30) (k : Nat) : (s.countBy i k).gate = s.gate := rfl
@[simp] theorem State.countBy_port (i : Fin 30) (k : Nat) : (s.countBy i k).port = s.port := rfl
@[simp] theorem State.countBy_pending (i : Fin 30) (k : Nat) : (s.countBy i k).pending = s.pending := rfl

/-! ### count -/

@[simp] theorem State.count_ctl (i : Fin 30) : (s.count i).ctl = s.ctl := rfl
@[simp] theorem State.count_pins (i : Fin 30) : (s.count i).pins = s.pins := rfl
@[simp] theorem State.count_clk (i : Fin 30) : (s.count i).clk = s.clk := rfl
@[simp] theorem State.count_track (i : Fin 30) : (s.count i).track = s.track := rfl
@[simp] theorem State.count_claims (i : Fin 30) : (s.count i).claims = s.claims := rfl
@[simp] theorem State.count_peers (i : Fin 30) : (s.count i).peers = s.peers := rfl
@[simp] theorem State.count_line (i : Fin 30) : (s.count i).line = s.line := rfl
@[simp] theorem State.count_head (i : Fin 30) : (s.count i).head = s.head := rfl
@[simp] theorem State.count_steam (i : Fin 30) : (s.count i).steam = s.steam := rfl
@[simp] theorem State.count_verdicts (i : Fin 30) : (s.count i).verdicts = s.verdicts := rfl
@[simp] theorem State.count_gate (i : Fin 30) : (s.count i).gate = s.gate := rfl
@[simp] theorem State.count_port (i : Fin 30) : (s.count i).port = s.port := rfl
@[simp] theorem State.count_pending (i : Fin 30) : (s.count i).pending = s.pending := rfl

/-! ### updJar -/

@[simp] theorem State.updJar_ctl (p : Word) (f : Jar → Jar) : (s.updJar p f).ctl = s.ctl := rfl
@[simp] theorem State.updJar_pins (p : Word) (f : Jar → Jar) : (s.updJar p f).pins = s.pins := rfl
@[simp] theorem State.updJar_clk (p : Word) (f : Jar → Jar) : (s.updJar p f).clk = s.clk := rfl
@[simp] theorem State.updJar_claims (p : Word) (f : Jar → Jar) : (s.updJar p f).claims = s.claims := rfl
@[simp] theorem State.updJar_peers (p : Word) (f : Jar → Jar) : (s.updJar p f).peers = s.peers := rfl
@[simp] theorem State.updJar_line (p : Word) (f : Jar → Jar) : (s.updJar p f).line = s.line := rfl
@[simp] theorem State.updJar_head (p : Word) (f : Jar → Jar) : (s.updJar p f).head = s.head := rfl
@[simp] theorem State.updJar_steam (p : Word) (f : Jar → Jar) : (s.updJar p f).steam = s.steam := rfl
@[simp] theorem State.updJar_verdicts (p : Word) (f : Jar → Jar) : (s.updJar p f).verdicts = s.verdicts := rfl
@[simp] theorem State.updJar_gate (p : Word) (f : Jar → Jar) : (s.updJar p f).gate = s.gate := rfl
@[simp] theorem State.updJar_port (p : Word) (f : Jar → Jar) : (s.updJar p f).port = s.port := rfl
@[simp] theorem State.updJar_counters (p : Word) (f : Jar → Jar) : (s.updJar p f).counters = s.counters := rfl
@[simp] theorem State.updJar_pending (p : Word) (f : Jar → Jar) : (s.updJar p f).pending = s.pending := rfl

/-! ### putJar -/

@[simp] theorem State.putJar_ctl (j : Jar) : (s.putJar j).ctl = s.ctl := rfl
@[simp] theorem State.putJar_pins (j : Jar) : (s.putJar j).pins = s.pins := rfl
@[simp] theorem State.putJar_clk (j : Jar) : (s.putJar j).clk = s.clk := rfl
@[simp] theorem State.putJar_claims (j : Jar) : (s.putJar j).claims = s.claims := rfl
@[simp] theorem State.putJar_peers (j : Jar) : (s.putJar j).peers = s.peers := rfl
@[simp] theorem State.putJar_line (j : Jar) : (s.putJar j).line = s.line := rfl
@[simp] theorem State.putJar_head (j : Jar) : (s.putJar j).head = s.head := rfl
@[simp] theorem State.putJar_steam (j : Jar) : (s.putJar j).steam = s.steam := rfl
@[simp] theorem State.putJar_verdicts (j : Jar) : (s.putJar j).verdicts = s.verdicts := rfl
@[simp] theorem State.putJar_gate (j : Jar) : (s.putJar j).gate = s.gate := rfl
@[simp] theorem State.putJar_port (j : Jar) : (s.putJar j).port = s.port := rfl
@[simp] theorem State.putJar_counters (j : Jar) : (s.putJar j).counters = s.counters := rfl
@[simp] theorem State.putJar_pending (j : Jar) : (s.putJar j).pending = s.pending := rfl

/-! ### reopenHeldBy -/

@[simp] theorem State.reopenHeldBy_ctl (k : Station) : (s.reopenHeldBy k).ctl = s.ctl := rfl
@[simp] theorem State.reopenHeldBy_pins (k : Station) : (s.reopenHeldBy k).pins = s.pins := rfl
@[simp] theorem State.reopenHeldBy_clk (k : Station) : (s.reopenHeldBy k).clk = s.clk := rfl
@[simp] theorem State.reopenHeldBy_claims (k : Station) : (s.reopenHeldBy k).claims = s.claims := rfl
@[simp] theorem State.reopenHeldBy_peers (k : Station) : (s.reopenHeldBy k).peers = s.peers := rfl
@[simp] theorem State.reopenHeldBy_line (k : Station) : (s.reopenHeldBy k).line = s.line := rfl
@[simp] theorem State.reopenHeldBy_head (k : Station) : (s.reopenHeldBy k).head = s.head := rfl
@[simp] theorem State.reopenHeldBy_steam (k : Station) : (s.reopenHeldBy k).steam = s.steam := rfl
@[simp] theorem State.reopenHeldBy_verdicts (k : Station) : (s.reopenHeldBy k).verdicts = s.verdicts := rfl
@[simp] theorem State.reopenHeldBy_gate (k : Station) : (s.reopenHeldBy k).gate = s.gate := rfl
@[simp] theorem State.reopenHeldBy_port (k : Station) : (s.reopenHeldBy k).port = s.port := rfl
@[simp] theorem State.reopenHeldBy_counters (k : Station) : (s.reopenHeldBy k).counters = s.counters := rfl
@[simp] theorem State.reopenHeldBy_pending (k : Station) : (s.reopenHeldBy k).pending = s.pending := rfl

/-! ### putPeer -/

@[simp] theorem State.putPeer_ctl (k : Station) (p : Peer) : (s.putPeer k p).ctl = s.ctl := rfl
@[simp] theorem State.putPeer_pins (k : Station) (p : Peer) : (s.putPeer k p).pins = s.pins := rfl
@[simp] theorem State.putPeer_clk (k : Station) (p : Peer) : (s.putPeer k p).clk = s.clk := rfl
@[simp] theorem State.putPeer_track (k : Station) (p : Peer) : (s.putPeer k p).track = s.track := rfl
@[simp] theorem State.putPeer_claims (k : Station) (p : Peer) : (s.putPeer k p).claims = s.claims := rfl
@[simp] theorem State.putPeer_line (k : Station) (p : Peer) : (s.putPeer k p).line = s.line := rfl
@[simp] theorem State.putPeer_head (k : Station) (p : Peer) : (s.putPeer k p).head = s.head := rfl
@[simp] theorem State.putPeer_steam (k : Station) (p : Peer) : (s.putPeer k p).steam = s.steam := rfl
@[simp] theorem State.putPeer_verdicts (k : Station) (p : Peer) : (s.putPeer k p).verdicts = s.verdicts := rfl
@[simp] theorem State.putPeer_gate (k : Station) (p : Peer) : (s.putPeer k p).gate = s.gate := rfl
@[simp] theorem State.putPeer_port (k : Station) (p : Peer) : (s.putPeer k p).port = s.port := rfl
@[simp] theorem State.putPeer_counters (k : Station) (p : Peer) : (s.putPeer k p).counters = s.counters := rfl
@[simp] theorem State.putPeer_pending (k : Station) (p : Peer) : (s.putPeer k p).pending = s.pending := rfl

/-! ### setAside -/

@[simp] theorem State.setAside_ctl (k : Station) (p : Peer) : (s.setAside k p).ctl = s.ctl := rfl
@[simp] theorem State.setAside_pins (k : Station) (p : Peer) : (s.setAside k p).pins = s.pins := rfl
@[simp] theorem State.setAside_clk (k : Station) (p : Peer) : (s.setAside k p).clk = s.clk := rfl
@[simp] theorem State.setAside_claims (k : Station) (p : Peer) : (s.setAside k p).claims = s.claims := rfl
@[simp] theorem State.setAside_line (k : Station) (p : Peer) : (s.setAside k p).line = s.line := rfl
@[simp] theorem State.setAside_head (k : Station) (p : Peer) : (s.setAside k p).head = s.head := rfl
@[simp] theorem State.setAside_steam (k : Station) (p : Peer) : (s.setAside k p).steam = s.steam := rfl
@[simp] theorem State.setAside_verdicts (k : Station) (p : Peer) : (s.setAside k p).verdicts = s.verdicts := rfl
@[simp] theorem State.setAside_gate (k : Station) (p : Peer) : (s.setAside k p).gate = s.gate := rfl
@[simp] theorem State.setAside_port (k : Station) (p : Peer) : (s.setAside k p).port = s.port := rfl
@[simp] theorem State.setAside_counters (k : Station) (p : Peer) : (s.setAside k p).counters = s.counters := rfl
@[simp] theorem State.setAside_pending (k : Station) (p : Peer) : (s.setAside k p).pending = s.pending := rfl

/-! ### dropClaim -/

@[simp] theorem State.dropClaim_ctl (p : Word) : (s.dropClaim p).ctl = s.ctl := rfl
@[simp] theorem State.dropClaim_pins (p : Word) : (s.dropClaim p).pins = s.pins := rfl
@[simp] theorem State.dropClaim_clk (p : Word) : (s.dropClaim p).clk = s.clk := rfl
@[simp] theorem State.dropClaim_track (p : Word) : (s.dropClaim p).track = s.track := rfl
@[simp] theorem State.dropClaim_peers (p : Word) : (s.dropClaim p).peers = s.peers := rfl
@[simp] theorem State.dropClaim_head (p : Word) : (s.dropClaim p).head = s.head := rfl
@[simp] theorem State.dropClaim_steam (p : Word) : (s.dropClaim p).steam = s.steam := rfl
@[simp] theorem State.dropClaim_verdicts (p : Word) : (s.dropClaim p).verdicts = s.verdicts := rfl
@[simp] theorem State.dropClaim_gate (p : Word) : (s.dropClaim p).gate = s.gate := rfl
@[simp] theorem State.dropClaim_port (p : Word) : (s.dropClaim p).port = s.port := rfl
@[simp] theorem State.dropClaim_counters (p : Word) : (s.dropClaim p).counters = s.counters := rfl
@[simp] theorem State.dropClaim_pending (p : Word) : (s.dropClaim p).pending = s.pending := rfl

/-! ### toPick -/

@[simp] theorem State.toPick_ctl : (s.toPick).ctl = s.ctl := rfl
@[simp] theorem State.toPick_pins : (s.toPick).pins = s.pins := rfl
@[simp] theorem State.toPick_clk : (s.toPick).clk = s.clk := rfl
@[simp] theorem State.toPick_track : (s.toPick).track = s.track := rfl
@[simp] theorem State.toPick_claims : (s.toPick).claims = s.claims := rfl
@[simp] theorem State.toPick_peers : (s.toPick).peers = s.peers := rfl
@[simp] theorem State.toPick_line : (s.toPick).line = s.line := rfl
@[simp] theorem State.toPick_steam : (s.toPick).steam = s.steam := rfl
@[simp] theorem State.toPick_verdicts : (s.toPick).verdicts = s.verdicts := rfl
@[simp] theorem State.toPick_gate : (s.toPick).gate = s.gate := rfl
@[simp] theorem State.toPick_port : (s.toPick).port = s.port := rfl
@[simp] theorem State.toPick_counters : (s.toPick).counters = s.counters := rfl
@[simp] theorem State.toPick_pending : (s.toPick).pending = s.pending := rfl

/-! ### earlyLift -/

@[simp] theorem State.earlyLift_ctl : (s.earlyLift).ctl = s.ctl := rfl
@[simp] theorem State.earlyLift_pins : (s.earlyLift).pins = s.pins := rfl
@[simp] theorem State.earlyLift_clk : (s.earlyLift).clk = s.clk := rfl
@[simp] theorem State.earlyLift_track : (s.earlyLift).track = s.track := rfl
@[simp] theorem State.earlyLift_claims : (s.earlyLift).claims = s.claims := rfl
@[simp] theorem State.earlyLift_peers : (s.earlyLift).peers = s.peers := rfl
@[simp] theorem State.earlyLift_line : (s.earlyLift).line = s.line := rfl
@[simp] theorem State.earlyLift_steam : (s.earlyLift).steam = s.steam := rfl
@[simp] theorem State.earlyLift_verdicts : (s.earlyLift).verdicts = s.verdicts := rfl
@[simp] theorem State.earlyLift_gate : (s.earlyLift).gate = s.gate := rfl
@[simp] theorem State.earlyLift_port : (s.earlyLift).port = s.port := rfl
@[simp] theorem State.earlyLift_counters : (s.earlyLift).counters = s.counters := rfl
@[simp] theorem State.earlyLift_pending : (s.earlyLift).pending = s.pending := rfl

/-! ### advanceN -/

@[simp] theorem State.advanceN_ctl : (s.advanceN).ctl = s.ctl := rfl
@[simp] theorem State.advanceN_pins : (s.advanceN).pins = s.pins := rfl
@[simp] theorem State.advanceN_track : (s.advanceN).track = s.track := rfl
@[simp] theorem State.advanceN_claims : (s.advanceN).claims = s.claims := rfl
@[simp] theorem State.advanceN_peers : (s.advanceN).peers = s.peers := rfl
@[simp] theorem State.advanceN_line : (s.advanceN).line = s.line := rfl
@[simp] theorem State.advanceN_head : (s.advanceN).head = s.head := rfl
@[simp] theorem State.advanceN_steam : (s.advanceN).steam = s.steam := rfl
@[simp] theorem State.advanceN_verdicts : (s.advanceN).verdicts = s.verdicts := rfl
@[simp] theorem State.advanceN_gate : (s.advanceN).gate = s.gate := rfl
@[simp] theorem State.advanceN_port : (s.advanceN).port = s.port := rfl
@[simp] theorem State.advanceN_counters : (s.advanceN).counters = s.counters := rfl
@[simp] theorem State.advanceN_pending : (s.advanceN).pending = s.pending := rfl

/-! ### endDraws -/

@[simp] theorem State.endDraws_ctl : (s.endDraws).ctl = s.ctl := rfl
@[simp] theorem State.endDraws_pins : (s.endDraws).pins = s.pins := rfl
@[simp] theorem State.endDraws_clk : (s.endDraws).clk = s.clk := rfl
@[simp] theorem State.endDraws_track : (s.endDraws).track = s.track := rfl
@[simp] theorem State.endDraws_claims : (s.endDraws).claims = s.claims := rfl
@[simp] theorem State.endDraws_peers : (s.endDraws).peers = s.peers := rfl
@[simp] theorem State.endDraws_line : (s.endDraws).line = s.line := rfl
@[simp] theorem State.endDraws_head : (s.endDraws).head = s.head := rfl
@[simp] theorem State.endDraws_verdicts : (s.endDraws).verdicts = s.verdicts := rfl
@[simp] theorem State.endDraws_gate : (s.endDraws).gate = s.gate := rfl
@[simp] theorem State.endDraws_port : (s.endDraws).port = s.port := rfl
@[simp] theorem State.endDraws_counters : (s.endDraws).counters = s.counters := rfl
@[simp] theorem State.endDraws_pending : (s.endDraws).pending = s.pending := rfl

/-! ### dropStale -/

@[simp] theorem State.dropStale_ctl : (s.dropStale).ctl = s.ctl := rfl
@[simp] theorem State.dropStale_pins : (s.dropStale).pins = s.pins := rfl
@[simp] theorem State.dropStale_clk : (s.dropStale).clk = s.clk := rfl
@[simp] theorem State.dropStale_track : (s.dropStale).track = s.track := rfl
@[simp] theorem State.dropStale_claims : (s.dropStale).claims = s.claims := rfl
@[simp] theorem State.dropStale_peers : (s.dropStale).peers = s.peers := rfl
@[simp] theorem State.dropStale_head : (s.dropStale).head = s.head := rfl
@[simp] theorem State.dropStale_steam : (s.dropStale).steam = s.steam := rfl
@[simp] theorem State.dropStale_verdicts : (s.dropStale).verdicts = s.verdicts := rfl
@[simp] theorem State.dropStale_gate : (s.dropStale).gate = s.gate := rfl
@[simp] theorem State.dropStale_port : (s.dropStale).port = s.port := rfl
@[simp] theorem State.dropStale_pending : (s.dropStale).pending = s.pending := rfl

/-! ### giveBackClaims -/

@[simp] theorem State.giveBackClaims_ctl : (s.giveBackClaims).ctl = s.ctl := rfl
@[simp] theorem State.giveBackClaims_pins : (s.giveBackClaims).pins = s.pins := rfl
@[simp] theorem State.giveBackClaims_clk : (s.giveBackClaims).clk = s.clk := rfl
@[simp] theorem State.giveBackClaims_peers : (s.giveBackClaims).peers = s.peers := rfl
@[simp] theorem State.giveBackClaims_head : (s.giveBackClaims).head = s.head := rfl
@[simp] theorem State.giveBackClaims_steam : (s.giveBackClaims).steam = s.steam := rfl
@[simp] theorem State.giveBackClaims_verdicts : (s.giveBackClaims).verdicts = s.verdicts := rfl
@[simp] theorem State.giveBackClaims_gate : (s.giveBackClaims).gate = s.gate := rfl
@[simp] theorem State.giveBackClaims_port : (s.giveBackClaims).port = s.port := rfl
@[simp] theorem State.giveBackClaims_counters : (s.giveBackClaims).counters = s.counters := rfl
@[simp] theorem State.giveBackClaims_pending : (s.giveBackClaims).pending = s.pending := rfl

/-! ### enqueue -/

@[simp] theorem State.enqueue_ctl (f : TxFrame) : (s.enqueue f).ctl = s.ctl := by
  unfold State.enqueue; split <;> rfl
@[simp] theorem State.enqueue_pins (f : TxFrame) : (s.enqueue f).pins = s.pins := by
  unfold State.enqueue; split <;> rfl
@[simp] theorem State.enqueue_clk (f : TxFrame) : (s.enqueue f).clk = s.clk := by
  unfold State.enqueue; split <;> rfl
@[simp] theorem State.enqueue_track (f : TxFrame) : (s.enqueue f).track = s.track := by
  unfold State.enqueue; split <;> rfl
@[simp] theorem State.enqueue_claims (f : TxFrame) : (s.enqueue f).claims = s.claims := by
  unfold State.enqueue; split <;> rfl
@[simp] theorem State.enqueue_peers (f : TxFrame) : (s.enqueue f).peers = s.peers := by
  unfold State.enqueue; split <;> rfl
@[simp] theorem State.enqueue_head (f : TxFrame) : (s.enqueue f).head = s.head := by
  unfold State.enqueue; split <;> rfl
@[simp] theorem State.enqueue_steam (f : TxFrame) : (s.enqueue f).steam = s.steam := by
  unfold State.enqueue; split <;> rfl
@[simp] theorem State.enqueue_verdicts (f : TxFrame) : (s.enqueue f).verdicts = s.verdicts := by
  unfold State.enqueue; split <;> rfl
@[simp] theorem State.enqueue_gate (f : TxFrame) : (s.enqueue f).gate = s.gate := by
  unfold State.enqueue; split <;> rfl
@[simp] theorem State.enqueue_port (f : TxFrame) : (s.enqueue f).port = s.port := by
  unfold State.enqueue; split <;> rfl
@[simp] theorem State.enqueue_pending (f : TxFrame) : (s.enqueue f).pending = s.pending := by
  unfold State.enqueue; split <;> rfl

/-! ### gateInsert -/

@[simp] theorem State.gateInsert_ctl (p : Word) (v : Verdict) : (s.gateInsert p v).ctl = s.ctl := by
  unfold State.gateInsert; split; · rfl
  · split <;> rfl
@[simp] theorem State.gateInsert_pins (p : Word) (v : Verdict) : (s.gateInsert p v).pins = s.pins := by
  unfold State.gateInsert; split; · rfl
  · split <;> rfl
@[simp] theorem State.gateInsert_clk (p : Word) (v : Verdict) : (s.gateInsert p v).clk = s.clk := by
  unfold State.gateInsert; split; · rfl
  · split <;> rfl
@[simp] theorem State.gateInsert_track (p : Word) (v : Verdict) : (s.gateInsert p v).track = s.track := by
  unfold State.gateInsert; split; · rfl
  · split <;> rfl
@[simp] theorem State.gateInsert_claims (p : Word) (v : Verdict) : (s.gateInsert p v).claims = s.claims := by
  unfold State.gateInsert; split; · rfl
  · split <;> rfl
@[simp] theorem State.gateInsert_peers (p : Word) (v : Verdict) : (s.gateInsert p v).peers = s.peers := by
  unfold State.gateInsert; split; · rfl
  · split <;> rfl
@[simp] theorem State.gateInsert_line (p : Word) (v : Verdict) : (s.gateInsert p v).line = s.line := by
  unfold State.gateInsert; split; · rfl
  · split <;> rfl
@[simp] theorem State.gateInsert_head (p : Word) (v : Verdict) : (s.gateInsert p v).head = s.head := by
  unfold State.gateInsert; split; · rfl
  · split <;> rfl
@[simp] theorem State.gateInsert_steam (p : Word) (v : Verdict) : (s.gateInsert p v).steam = s.steam := by
  unfold State.gateInsert; split; · rfl
  · split <;> rfl
@[simp] theorem State.gateInsert_verdicts (p : Word) (v : Verdict) : (s.gateInsert p v).verdicts = s.verdicts := by
  unfold State.gateInsert; split; · rfl
  · split <;> rfl
@[simp] theorem State.gateInsert_port (p : Word) (v : Verdict) : (s.gateInsert p v).port = s.port := by
  unfold State.gateInsert; split; · rfl
  · split <;> rfl
@[simp] theorem State.gateInsert_pending (p : Word) (v : Verdict) : (s.gateInsert p v).pending = s.pending := by
  unfold State.gateInsert; split; · rfl
  · split <;> rfl

/-! ### countOwnVerdict -/

@[simp] theorem State.countOwnVerdict_ctl (v : Verdict) : (s.countOwnVerdict v).ctl = s.ctl := by
  unfold State.countOwnVerdict; split <;> rfl
@[simp] theorem State.countOwnVerdict_pins (v : Verdict) : (s.countOwnVerdict v).pins = s.pins := by
  unfold State.countOwnVerdict; split <;> rfl
@[simp] theorem State.countOwnVerdict_clk (v : Verdict) : (s.countOwnVerdict v).clk = s.clk := by
  unfold State.countOwnVerdict; split <;> rfl
@[simp] theorem State.countOwnVerdict_track (v : Verdict) : (s.countOwnVerdict v).track = s.track := by
  unfold State.countOwnVerdict; split <;> rfl
@[simp] theorem State.countOwnVerdict_claims (v : Verdict) : (s.countOwnVerdict v).claims = s.claims := by
  unfold State.countOwnVerdict; split <;> rfl
@[simp] theorem State.countOwnVerdict_peers (v : Verdict) : (s.countOwnVerdict v).peers = s.peers := by
  unfold State.countOwnVerdict; split <;> rfl
@[simp] theorem State.countOwnVerdict_line (v : Verdict) : (s.countOwnVerdict v).line = s.line := by
  unfold State.countOwnVerdict; split <;> rfl
@[simp] theorem State.countOwnVerdict_head (v : Verdict) : (s.countOwnVerdict v).head = s.head := by
  unfold State.countOwnVerdict; split <;> rfl
@[simp] theorem State.countOwnVerdict_steam (v : Verdict) : (s.countOwnVerdict v).steam = s.steam := by
  unfold State.countOwnVerdict; split <;> rfl
@[simp] theorem State.countOwnVerdict_verdicts (v : Verdict) : (s.countOwnVerdict v).verdicts = s.verdicts := by
  unfold State.countOwnVerdict; split <;> rfl
@[simp] theorem State.countOwnVerdict_gate (v : Verdict) : (s.countOwnVerdict v).gate = s.gate := by
  unfold State.countOwnVerdict; split <;> rfl
@[simp] theorem State.countOwnVerdict_port (v : Verdict) : (s.countOwnVerdict v).port = s.port := by
  unfold State.countOwnVerdict; split <;> rfl
@[simp] theorem State.countOwnVerdict_pending (v : Verdict) : (s.countOwnVerdict v).pending = s.pending := by
  unfold State.countOwnVerdict; split <;> rfl

/-! ### refresh -/

@[simp] theorem State.refresh_ctl (k : Station) : (s.refresh k).ctl = s.ctl := by
  unfold State.refresh; split <;> rfl
@[simp] theorem State.refresh_pins (k : Station) : (s.refresh k).pins = s.pins := by
  unfold State.refresh; split <;> rfl
@[simp] theorem State.refresh_clk (k : Station) : (s.refresh k).clk = s.clk := by
  unfold State.refresh; split <;> rfl
@[simp] theorem State.refresh_track (k : Station) : (s.refresh k).track = s.track := by
  unfold State.refresh; split <;> rfl
@[simp] theorem State.refresh_claims (k : Station) : (s.refresh k).claims = s.claims := by
  unfold State.refresh; split <;> rfl
@[simp] theorem State.refresh_line (k : Station) : (s.refresh k).line = s.line := by
  unfold State.refresh; split <;> rfl
@[simp] theorem State.refresh_head (k : Station) : (s.refresh k).head = s.head := by
  unfold State.refresh; split <;> rfl
@[simp] theorem State.refresh_steam (k : Station) : (s.refresh k).steam = s.steam := by
  unfold State.refresh; split <;> rfl
@[simp] theorem State.refresh_verdicts (k : Station) : (s.refresh k).verdicts = s.verdicts := by
  unfold State.refresh; split <;> rfl
@[simp] theorem State.refresh_gate (k : Station) : (s.refresh k).gate = s.gate := by
  unfold State.refresh; split <;> rfl
@[simp] theorem State.refresh_port (k : Station) : (s.refresh k).port = s.port := by
  unfold State.refresh; split <;> rfl
@[simp] theorem State.refresh_counters (k : Station) : (s.refresh k).counters = s.counters := by
  unfold State.refresh; split <;> rfl
@[simp] theorem State.refresh_pending (k : Station) : (s.refresh k).pending = s.pending := by
  unfold State.refresh; split <;> rfl

/-! ### handToGate -/

@[simp] theorem State.handToGate_ctl (p : Word) (v : Verdict) (d : Disposition) : (s.handToGate p v d).ctl = s.ctl := by
  unfold State.handToGate; split
  · split <;> simp
  · rfl
@[simp] theorem State.handToGate_pins (p : Word) (v : Verdict) (d : Disposition) : (s.handToGate p v d).pins = s.pins := by
  unfold State.handToGate; split
  · split <;> simp
  · rfl
@[simp] theorem State.handToGate_clk (p : Word) (v : Verdict) (d : Disposition) : (s.handToGate p v d).clk = s.clk := by
  unfold State.handToGate; split
  · split <;> simp
  · rfl
@[simp] theorem State.handToGate_track (p : Word) (v : Verdict) (d : Disposition) : (s.handToGate p v d).track = s.track := by
  unfold State.handToGate; split
  · split <;> simp
  · rfl
@[simp] theorem State.handToGate_claims (p : Word) (v : Verdict) (d : Disposition) : (s.handToGate p v d).claims = s.claims := by
  unfold State.handToGate; split
  · split <;> simp
  · rfl
@[simp] theorem State.handToGate_peers (p : Word) (v : Verdict) (d : Disposition) : (s.handToGate p v d).peers = s.peers := by
  unfold State.handToGate; split
  · split <;> simp
  · rfl
@[simp] theorem State.handToGate_line (p : Word) (v : Verdict) (d : Disposition) : (s.handToGate p v d).line = s.line := by
  unfold State.handToGate; split
  · split <;> simp
  · rfl
@[simp] theorem State.handToGate_head (p : Word) (v : Verdict) (d : Disposition) : (s.handToGate p v d).head = s.head := by
  unfold State.handToGate; split
  · split <;> simp
  · rfl
@[simp] theorem State.handToGate_steam (p : Word) (v : Verdict) (d : Disposition) : (s.handToGate p v d).steam = s.steam := by
  unfold State.handToGate; split
  · split <;> simp
  · rfl
@[simp] theorem State.handToGate_verdicts (p : Word) (v : Verdict) (d : Disposition) : (s.handToGate p v d).verdicts = s.verdicts := by
  unfold State.handToGate; split
  · split <;> simp
  · rfl
@[simp] theorem State.handToGate_port (p : Word) (v : Verdict) (d : Disposition) : (s.handToGate p v d).port = s.port := by
  unfold State.handToGate; split
  · split <;> simp
  · rfl
@[simp] theorem State.handToGate_pending (p : Word) (v : Verdict) (d : Disposition) : (s.handToGate p v d).pending = s.pending := by
  unfold State.handToGate; split
  · split <;> simp
  · rfl

/-! ### setOwnVerdict -/

@[simp] theorem State.setOwnVerdict_ctl (j : Jar) (v : Verdict) (m : Measurements) : (s.setOwnVerdict j v m).ctl = s.ctl := by
  simp [State.setOwnVerdict]
@[simp] theorem State.setOwnVerdict_pins (j : Jar) (v : Verdict) (m : Measurements) : (s.setOwnVerdict j v m).pins = s.pins := by
  simp [State.setOwnVerdict]
@[simp] theorem State.setOwnVerdict_clk (j : Jar) (v : Verdict) (m : Measurements) : (s.setOwnVerdict j v m).clk = s.clk := by
  simp [State.setOwnVerdict]
@[simp] theorem State.setOwnVerdict_claims (j : Jar) (v : Verdict) (m : Measurements) : (s.setOwnVerdict j v m).claims = s.claims := by
  simp [State.setOwnVerdict]
@[simp] theorem State.setOwnVerdict_peers (j : Jar) (v : Verdict) (m : Measurements) : (s.setOwnVerdict j v m).peers = s.peers := by
  simp [State.setOwnVerdict]
@[simp] theorem State.setOwnVerdict_head (j : Jar) (v : Verdict) (m : Measurements) : (s.setOwnVerdict j v m).head = s.head := by
  simp [State.setOwnVerdict]
@[simp] theorem State.setOwnVerdict_steam (j : Jar) (v : Verdict) (m : Measurements) : (s.setOwnVerdict j v m).steam = s.steam := by
  simp [State.setOwnVerdict]
@[simp] theorem State.setOwnVerdict_verdicts (j : Jar) (v : Verdict) (m : Measurements) : (s.setOwnVerdict j v m).verdicts = s.verdicts := by
  simp [State.setOwnVerdict]
@[simp] theorem State.setOwnVerdict_port (j : Jar) (v : Verdict) (m : Measurements) : (s.setOwnVerdict j v m).port = s.port := by
  simp [State.setOwnVerdict]
@[simp] theorem State.setOwnVerdict_pending (j : Jar) (v : Verdict) (m : Measurements) : (s.setOwnVerdict j v m).pending = s.pending := by
  simp [State.setOwnVerdict]

/-! ### setPeerVerdict -/

@[simp] theorem State.setPeerVerdict_ctl (j : Jar) (k : Station) (v : Verdict) (d : Disposition) (a : Byte) : (s.setPeerVerdict j k v d a).ctl = s.ctl := by
  simp [State.setPeerVerdict]
@[simp] theorem State.setPeerVerdict_pins (j : Jar) (k : Station) (v : Verdict) (d : Disposition) (a : Byte) : (s.setPeerVerdict j k v d a).pins = s.pins := by
  simp [State.setPeerVerdict]
@[simp] theorem State.setPeerVerdict_clk (j : Jar) (k : Station) (v : Verdict) (d : Disposition) (a : Byte) : (s.setPeerVerdict j k v d a).clk = s.clk := by
  simp [State.setPeerVerdict]
@[simp] theorem State.setPeerVerdict_claims (j : Jar) (k : Station) (v : Verdict) (d : Disposition) (a : Byte) : (s.setPeerVerdict j k v d a).claims = s.claims := by
  simp [State.setPeerVerdict]
@[simp] theorem State.setPeerVerdict_peers (j : Jar) (k : Station) (v : Verdict) (d : Disposition) (a : Byte) : (s.setPeerVerdict j k v d a).peers = s.peers := by
  simp [State.setPeerVerdict]
@[simp] theorem State.setPeerVerdict_line (j : Jar) (k : Station) (v : Verdict) (d : Disposition) (a : Byte) : (s.setPeerVerdict j k v d a).line = s.line := by
  simp [State.setPeerVerdict]
@[simp] theorem State.setPeerVerdict_head (j : Jar) (k : Station) (v : Verdict) (d : Disposition) (a : Byte) : (s.setPeerVerdict j k v d a).head = s.head := by
  simp [State.setPeerVerdict]
@[simp] theorem State.setPeerVerdict_steam (j : Jar) (k : Station) (v : Verdict) (d : Disposition) (a : Byte) : (s.setPeerVerdict j k v d a).steam = s.steam := by
  simp [State.setPeerVerdict]
@[simp] theorem State.setPeerVerdict_verdicts (j : Jar) (k : Station) (v : Verdict) (d : Disposition) (a : Byte) : (s.setPeerVerdict j k v d a).verdicts = s.verdicts := by
  simp [State.setPeerVerdict]
@[simp] theorem State.setPeerVerdict_port (j : Jar) (k : Station) (v : Verdict) (d : Disposition) (a : Byte) : (s.setPeerVerdict j k v d a).port = s.port := by
  simp [State.setPeerVerdict]
@[simp] theorem State.setPeerVerdict_pending (j : Jar) (k : Station) (v : Verdict) (d : Disposition) (a : Byte) : (s.setPeerVerdict j k v d a).pending = s.pending := by
  simp [State.setPeerVerdict]

/-! ### giveBack -/

@[simp] theorem State.giveBack_ctl (j : Jar) : (s.giveBack j).ctl = s.ctl := by
  simp [State.giveBack]
@[simp] theorem State.giveBack_pins (j : Jar) : (s.giveBack j).pins = s.pins := by
  simp [State.giveBack]
@[simp] theorem State.giveBack_clk (j : Jar) : (s.giveBack j).clk = s.clk := by
  simp [State.giveBack]
@[simp] theorem State.giveBack_claims (j : Jar) : (s.giveBack j).claims = s.claims := by
  simp [State.giveBack]
@[simp] theorem State.giveBack_peers (j : Jar) : (s.giveBack j).peers = s.peers := by
  simp [State.giveBack]
@[simp] theorem State.giveBack_head (j : Jar) : (s.giveBack j).head = s.head := by
  simp [State.giveBack]
@[simp] theorem State.giveBack_steam (j : Jar) : (s.giveBack j).steam = s.steam := by
  simp [State.giveBack]
@[simp] theorem State.giveBack_verdicts (j : Jar) : (s.giveBack j).verdicts = s.verdicts := by
  simp [State.giveBack]
@[simp] theorem State.giveBack_gate (j : Jar) : (s.giveBack j).gate = s.gate := by
  simp [State.giveBack]
@[simp] theorem State.giveBack_port (j : Jar) : (s.giveBack j).port = s.port := by
  simp [State.giveBack]
@[simp] theorem State.giveBack_pending (j : Jar) : (s.giveBack j).pending = s.pending := by
  simp [State.giveBack]

/-! ### makeClaim -/

@[simp] theorem State.makeClaim_ctl (j : Jar) : (s.makeClaim j).ctl = s.ctl := by
  simp [State.makeClaim]
@[simp] theorem State.makeClaim_pins (j : Jar) : (s.makeClaim j).pins = s.pins := by
  simp [State.makeClaim]
@[simp] theorem State.makeClaim_clk (j : Jar) : (s.makeClaim j).clk = s.clk := by
  simp [State.makeClaim]
@[simp] theorem State.makeClaim_peers (j : Jar) : (s.makeClaim j).peers = s.peers := by
  simp [State.makeClaim]
@[simp] theorem State.makeClaim_head (j : Jar) : (s.makeClaim j).head = s.head := by
  simp [State.makeClaim]
@[simp] theorem State.makeClaim_steam (j : Jar) : (s.makeClaim j).steam = s.steam := by
  simp [State.makeClaim]
@[simp] theorem State.makeClaim_verdicts (j : Jar) : (s.makeClaim j).verdicts = s.verdicts := by
  simp [State.makeClaim]
@[simp] theorem State.makeClaim_gate (j : Jar) : (s.makeClaim j).gate = s.gate := by
  simp [State.makeClaim]
@[simp] theorem State.makeClaim_port (j : Jar) : (s.makeClaim j).port = s.port := by
  simp [State.makeClaim]
@[simp] theorem State.makeClaim_pending (j : Jar) : (s.makeClaim j).pending = s.pending := by
  simp [State.makeClaim]

/-! ### The settings read through an update -/

@[simp] theorem State.countBy_cfg (i : Fin 30) (k : Nat) : (s.countBy i k).cfg = s.cfg := by simp [State.cfg]
@[simp] theorem State.countBy_inRun (i : Fin 30) (k : Nat) : (s.countBy i k).inRun = s.inRun := by simp [State.inRun]
@[simp] theorem State.count_cfg (i : Fin 30) : (s.count i).cfg = s.cfg := by simp [State.cfg]
@[simp] theorem State.count_inRun (i : Fin 30) : (s.count i).inRun = s.inRun := by simp [State.inRun]
@[simp] theorem State.updJar_cfg (p : Word) (f : Jar → Jar) : (s.updJar p f).cfg = s.cfg := by simp [State.cfg]
@[simp] theorem State.updJar_inRun (p : Word) (f : Jar → Jar) : (s.updJar p f).inRun = s.inRun := by simp [State.inRun]
@[simp] theorem State.putJar_cfg (j : Jar) : (s.putJar j).cfg = s.cfg := by simp [State.cfg]
@[simp] theorem State.putJar_inRun (j : Jar) : (s.putJar j).inRun = s.inRun := by simp [State.inRun]
@[simp] theorem State.reopenHeldBy_cfg (k : Station) : (s.reopenHeldBy k).cfg = s.cfg := by simp [State.cfg]
@[simp] theorem State.reopenHeldBy_inRun (k : Station) : (s.reopenHeldBy k).inRun = s.inRun := by simp [State.inRun]
@[simp] theorem State.putPeer_cfg (k : Station) (p : Peer) : (s.putPeer k p).cfg = s.cfg := by simp [State.cfg]
@[simp] theorem State.putPeer_inRun (k : Station) (p : Peer) : (s.putPeer k p).inRun = s.inRun := by simp [State.inRun]
@[simp] theorem State.setAside_cfg (k : Station) (p : Peer) : (s.setAside k p).cfg = s.cfg := by simp [State.cfg]
@[simp] theorem State.setAside_inRun (k : Station) (p : Peer) : (s.setAside k p).inRun = s.inRun := by simp [State.inRun]
@[simp] theorem State.dropClaim_cfg (p : Word) : (s.dropClaim p).cfg = s.cfg := by simp [State.cfg]
@[simp] theorem State.dropClaim_inRun (p : Word) : (s.dropClaim p).inRun = s.inRun := by simp [State.inRun]
@[simp] theorem State.toPick_cfg : (s.toPick).cfg = s.cfg := by simp [State.cfg]
@[simp] theorem State.toPick_inRun : (s.toPick).inRun = s.inRun := by simp [State.inRun]
@[simp] theorem State.earlyLift_cfg : (s.earlyLift).cfg = s.cfg := by simp [State.cfg]
@[simp] theorem State.earlyLift_inRun : (s.earlyLift).inRun = s.inRun := by simp [State.inRun]
@[simp] theorem State.advanceN_cfg : (s.advanceN).cfg = s.cfg := by simp [State.cfg]
@[simp] theorem State.advanceN_inRun : (s.advanceN).inRun = s.inRun := by simp [State.inRun]
@[simp] theorem State.endDraws_cfg : (s.endDraws).cfg = s.cfg := by simp [State.cfg]
@[simp] theorem State.endDraws_inRun : (s.endDraws).inRun = s.inRun := by simp [State.inRun]
@[simp] theorem State.dropStale_cfg : (s.dropStale).cfg = s.cfg := by simp [State.cfg]
@[simp] theorem State.dropStale_inRun : (s.dropStale).inRun = s.inRun := by simp [State.inRun]
@[simp] theorem State.giveBackClaims_cfg : (s.giveBackClaims).cfg = s.cfg := by simp [State.cfg]
@[simp] theorem State.giveBackClaims_inRun : (s.giveBackClaims).inRun = s.inRun := by simp [State.inRun]
@[simp] theorem State.enqueue_cfg (f : TxFrame) : (s.enqueue f).cfg = s.cfg := by simp [State.cfg]
@[simp] theorem State.enqueue_inRun (f : TxFrame) : (s.enqueue f).inRun = s.inRun := by simp [State.inRun]
@[simp] theorem State.gateInsert_cfg (p : Word) (v : Verdict) : (s.gateInsert p v).cfg = s.cfg := by simp [State.cfg]
@[simp] theorem State.gateInsert_inRun (p : Word) (v : Verdict) : (s.gateInsert p v).inRun = s.inRun := by simp [State.inRun]
@[simp] theorem State.countOwnVerdict_cfg (v : Verdict) : (s.countOwnVerdict v).cfg = s.cfg := by simp [State.cfg]
@[simp] theorem State.countOwnVerdict_inRun (v : Verdict) : (s.countOwnVerdict v).inRun = s.inRun := by simp [State.inRun]
@[simp] theorem State.refresh_cfg (k : Station) : (s.refresh k).cfg = s.cfg := by simp [State.cfg]
@[simp] theorem State.refresh_inRun (k : Station) : (s.refresh k).inRun = s.inRun := by simp [State.inRun]

end Sys2Proof.Machine
end

