-- ==== Sys2Proof/Laws/Ops.lean ====
section
/-! SUPPORT. The shared operations, each said once: counters, track, peer records, transmit queue, draw
list, gate queue, station numbers. -/

namespace Sys2Proof.Machine

variable (s : State)

/-! ### Vectors -/

theorem vec_get_set_same {α : Type} {n : Nat} (v : Vector α n) (i : Fin n) (x : α) :
    (v.set i.val x i.isLt).get i = x := by
  change (v.set i.val x i.isLt)[i.val] = x
  simp

theorem vec_get_set_other {α : Type} {n : Nat} (v : Vector α n) (i j : Fin n) (x : α) (h : i ≠ j) :
    (v.set i.val x i.isLt).get j = v.get j := by
  change (v.set i.val x i.isLt)[j.val] = v[j.val]
  have : i.val ≠ j.val := fun e => h (Fin.ext e)
  simp [this]

theorem vec_set_get {α : Type} {n : Nat} (v : Vector α n) (i : Fin n) :
    v.set i.val (v.get i) i.isLt = v := by
  change v.set i.val v[i.val] i.isLt = v
  simp

/-! ### Counters (R180) -/

theorem satAdd_toNat (c : Word) (k : Nat) : (satAdd c k).toNat = min 65535 (c.toNat + k) := by
  simp only [satAdd, BitVec.toNat_ofNat]; omega

theorem satAdd_zero (c : Word) : satAdd c 0 = c := by
  apply BitVec.eq_of_toNat_eq; rw [satAdd_toNat]; omega

theorem satAdd_le (c : Word) (k : Nat) : c.toNat ≤ (satAdd c k).toNat := by
  rw [satAdd_toNat]; omega

theorem State.countBy_get_same (i : Fin 30) (k : Nat) :
    (s.countBy i k).counters.get i = satAdd (s.counters.get i) k :=
  vec_get_set_same _ _ _

theorem State.countBy_get_other (i j : Fin 30) (k : Nat) (h : i ≠ j) :
    (s.countBy i k).counters.get j = s.counters.get j :=
  vec_get_set_other _ _ _ _ h

/-- A counter operation lowers no counter. -/
theorem State.countBy_counters_le (i j : Fin 30) (k : Nat) :
    (s.counters.get j).toNat ≤ ((s.countBy i k).counters.get j).toNat := by
  by_cases h : i = j
  · subst h; rw [State.countBy_get_same]; exact satAdd_le _ _
  · rw [State.countBy_get_other _ _ _ _ h]

@[simp] theorem State.countBy_zero (i : Fin 30) : s.countBy i 0 = s := by
  have : s.counters.set i.val (satAdd (s.counters.get i) 0) i.isLt = s.counters := by
    rw [satAdd_zero]; exact vec_set_get _ _
  simp only [State.countBy, this]

/-! ### Distance (R11) -/

theorem distance_eq_iff (n p : Word) (d : Nat) (h : d < 65536) :
    distance n p = d ↔ n = p + BitVec.ofNat 16 d := by
  unfold distance
  constructor
  · intro e; apply BitVec.eq_of_toNat_eq; have := n.isLt; have := p.isLt
    simp only [BitVec.toNat_sub, BitVec.toNat_add, BitVec.toNat_ofNat] at *; omega
  · rintro rfl; have := p.isLt
    simp only [BitVec.toNat_sub, BitVec.toNat_add, BitVec.toNat_ofNat] at *; omega

theorem distance_inj (n p q : Word) (h : distance n p = distance n q) : p = q := by
  unfold distance at h
  apply BitVec.eq_of_toNat_eq
  have := n.isLt; have := p.isLt; have := q.isLt
  simp only [BitVec.toNat_sub] at h; omega

/-- Distances rise by one at a strobe, short of the wrap (R28). -/
theorem distance_succ (n p : Word) (h : distance n p < 65535) :
    distance (n + 1) p = distance n p + 1 := by
  unfold distance at *
  have := n.isLt; have := p.isLt
  have h1 : (1 : Word).toNat = 1 := rfl
  simp only [BitVec.toNat_sub, BitVec.toNat_add, h1] at *; omega

theorem distance_self (n : Word) : distance n n = 0 := by simp [distance]

/-! ### The jar track (R33 to R35) -/

theorem State.findJar_some {p : Word} {j : Jar} (h : s.findJar p = some j) :
    j ∈ s.track ∧ j.pitch = p := by
  unfold State.findJar at h
  exact ⟨List.mem_of_find?_eq_some h, by simpa using List.find?_some h⟩

theorem State.findJar_none {p : Word} (h : s.lacks p) : s.findJar p = none := by
  unfold State.findJar
  rw [List.find?_eq_none]
  intro x hx; simpa using h x hx

theorem State.findJar_holds {pre post : List Jar} {j : Jar} (h : s.holds pre j post) :
    s.findJar j.pitch = some j := by
  obtain ⟨ht, hu⟩ := h
  unfold State.findJar
  rw [ht, List.find?_append]
  have hn : pre.find? (fun x => x.pitch == j.pitch) = none := by
    rw [List.find?_eq_none]; intro x hx; simpa using hu x (List.mem_append_left _ hx)
  rw [hn]; simp

theorem map_other (p : Word) (f : Jar → Jar) (l : List Jar) (h : ∀ x ∈ l, x.pitch ≠ p) :
    l.map (fun x => if x.pitch == p then f x else x) = l := by
  rw [List.map_congr_left (g := id)]
  · simp
  · intro x hx; simp [h x hx]

/-- A change at the pitch of a record that stands alone under it changes that record in its place. -/
theorem State.updJar_holds {pre post : List Jar} {j : Jar} (f : Jar → Jar) (h : s.holds pre j post) :
    s.updJar j.pitch f = { s with track := pre ++ f j :: post } := by
  obtain ⟨ht, hu⟩ := h
  unfold State.updJar
  rw [ht, List.map_append, List.map_cons,
    map_other _ _ pre (fun x hx => hu x (List.mem_append_left _ hx)),
    map_other _ _ post (fun x hx => hu x (List.mem_append_right _ hx))]
  simp

theorem State.putJar_holds {pre post : List Jar} {j : Jar} (k : Jar) (h : s.holds pre j post)
    (hk : k.pitch = j.pitch) : s.putJar k = { s with track := pre ++ k :: post } := by
  unfold State.putJar; rw [hk, State.updJar_holds s _ h]

/-- The members after a change at one pitch. -/
theorem State.mem_updJar {p : Word} {f : Jar → Jar} {x : Jar} :
    x ∈ (s.updJar p f).track ↔ ∃ y ∈ s.track, x = if y.pitch = p then f y else y := by
  simp only [State.updJar, List.mem_map, beq_iff_eq]
  exact ⟨fun ⟨y, hy, e⟩ => ⟨y, hy, e.symm⟩, fun ⟨y, hy, e⟩ => ⟨y, hy, e.symm⟩⟩

/-- A change that keeps the pitch keeps the pitches of the track. -/
theorem State.updJar_pitches (p : Word) (f : Jar → Jar) (h : ∀ j, j.pitch = p → (f j).pitch = p) :
    (s.updJar p f).track.map Jar.pitch = s.track.map Jar.pitch := by
  simp only [State.updJar, List.map_map]
  apply List.map_congr_left
  intro x _
  by_cases hx : x.pitch = p <;> simp [hx, h]

theorem State.putJar_pitches (j : Jar) :
    (s.putJar j).track.map Jar.pitch = s.track.map Jar.pitch :=
  s.updJar_pitches _ _ (fun _ _ => rfl)

theorem State.reopenHeldBy_pitches (k : Station) :
    (s.reopenHeldBy k).track.map Jar.pitch = s.track.map Jar.pitch := by
  simp only [State.reopenHeldBy, List.map_map]
  apply List.map_congr_left
  intro x _
  by_cases hx : x.heldBy k <;> simp [hx, Jar.reopen]

/-! ### The peer table -/

@[simp] theorem State.peer_putPeer_same (k : Station) (p : Peer) : (s.putPeer k p).peer k = p :=
  vec_get_set_same _ _ _

@[simp] theorem State.peer_putPeer_other (k q : Station) (p : Peer) (h : k ≠ q) :
    (s.putPeer k p).peer q = s.peer q :=
  vec_get_set_other _ _ _ _ h

theorem State.putPeer_putPeer (k : Station) (p q : Peer) :
    (s.putPeer k p).putPeer k q = s.putPeer k q := by
  simp [State.putPeer]

theorem State.putPeer_self (k : Station) : s.putPeer k (s.peer k) = s := by
  unfold State.putPeer State.peer; rw [vec_set_get]

theorem stationNum_pos (k : Station) : 1 ≤ stationNum k := by unfold stationNum; omega

theorem stationNum_le (k : Station) : stationNum k ≤ 8 := by unfold stationNum; omega

theorem stationOf_stationNum (k : Station) : stationOf? (stationNum k) = some k := by
  revert k; decide

theorem senderCode_toNat (k : Station) : (senderCode k).toNat = stationNum k := by
  revert k; decide

theorem stationOf_none {n : Nat} (h : n = 0 ∨ 9 ≤ n) : stationOf? n = none := by
  unfold stationOf?; rw [dif_neg]; omega

/-! ### The transmit queue (R92, R93) -/

theorem State.enqueue_room (f : TxFrame) (h : s.line.queue.length < 8) :
    s.enqueue f = { s with line := { s.line with queue := s.line.queue ++ [f] } } := by
  unfold State.enqueue; rw [if_pos (by simpa [Config.txPlaces] using h)]

theorem State.enqueue_full (f : TxFrame) (h : 8 ≤ s.line.queue.length) :
    s.enqueue f = s.count ctrQueueRefusals := by
  unfold State.enqueue; rw [if_neg (by simp [Config.txPlaces]; omega)]

theorem State.enqueue_queue_length (f : TxFrame) (h : s.line.queue.length ≤ 8) :
    (s.enqueue f).line.queue.length ≤ 8 := by
  by_cases hl : s.line.queue.length < 8
  · rw [State.enqueue_room s f hl]; simp; omega
  · rw [State.enqueue_full s f (by omega)]; simpa [State.count, State.countBy] using h

/-- An enqueue touches nothing of the line but the queue. -/
theorem State.enqueue_line (f : TxFrame) :
    (s.enqueue f).line = { s.line with queue := (s.enqueue f).line.queue } := by
  unfold State.enqueue; split <;> rfl

theorem BankLine.removeWaiting_length (gone : TxFrame → Bool) (l : BankLine) :
    (l.removeWaiting gone).queue.length ≤ l.queue.length := by
  unfold BankLine.removeWaiting
  split
  · simp
  · rename_i f rest h
    split
    · simp [h]; exact List.length_filter_le _ _
    · rw [h]; exact List.length_filter_le _ _

theorem BankLine.doomSending_queue (gone : TxFrame → Bool) (l : BankLine) :
    (l.doomSending gone).queue = l.queue := by
  unfold BankLine.doomSending; split
  · split <;> rfl
  · rfl

theorem BankLine.withdrawFrames_length (gone : TxFrame → Bool) (l : BankLine) :
    (l.withdrawFrames gone).queue.length ≤ l.queue.length := by
  unfold BankLine.withdrawFrames
  rw [BankLine.doomSending_queue]; exact BankLine.removeWaiting_length _ _

theorem BankLine.removeWaiting_nil (gone : TxFrame → Bool) (l : BankLine) (h : l.queue = []) :
    l.removeWaiting gone = l := by
  unfold BankLine.removeWaiting; rw [h]

/-- With nothing waiting, the stale test of a strobe has nothing to remove. -/
theorem State.dropStale_nil (h : s.line.queue = []) : s.dropStale = s := by
  have hw : s.line.waiting = [] := by unfold BankLine.waiting; split <;> simp [h]
  unfold State.dropStale
  simp [BankLine.removeWaiting_nil _ _ h, hw]

/-- A frame is stale at N exactly where its jar has reached E, for a CLAIM, or its draw has ended, for a
STEAM (R98, R99). -/
theorem staleFrame_eq (i : Image) (n : Word) (f : TxFrame) :
    staleFrame i n f = ((f.kind == .claim && decide (i.entryOffset ≤ distance n f.jar))
      || (f.kind == .steam && decide (f.payA.toNat ≤ distance n f.jar))) := by
  unfold staleFrame
  generalize decide (i.entryOffset ≤ distance n f.jar) = a
  generalize decide (f.payA.toNat ≤ distance n f.jar) = b
  revert a b; cases f.kind <;> decide

/-! ### Lapses (R58, R59, R76) -/

/-- A held promise is due at N exactly where it fell ahead of its claim and N has reached it. -/
theorem Jar.dueAt_held {n promise : Word} {k : Station} {ahead : Bool} {j : Jar}
    (h : j.st = .heldPeer k promise ahead) : j.dueAt n = true ↔ ahead = true ∧ promise = n := by
  simp [Jar.dueAt, h]

/-- A lapse reported against a LIVE claimant raises its count, and at the park limit parks it. -/
theorem State.reportLapse_live (k : Station) (h : (s.peer k).st = .live) :
    s.reportLapse k
      = if (s.peer k).lapses + 1 = s.cfg.parkLimit then
          s.setAside k { s.peer k with st := .parked 0, lapses := (s.peer k).lapses + 1 }
        else s.putPeer k { s.peer k with lapses := (s.peer k).lapses + 1 } := by
  simp [State.reportLapse, h]

/-- A lapse reported against any other claimant changes nothing. -/
theorem State.reportLapse_other (k : Station) (h : (s.peer k).st ≠ .live) : s.reportLapse k = s := by
  unfold State.reportLapse; simp only []; split <;> simp_all

/-! ### The draw list (R126) -/

theorem Draw.endsAt_iff (n : Word) (d : Draw) : d.endsAt n = true ↔ distance n d.start = d.length.toNat := by
  unfold Draw.endsAt; exact decide_eq_true_iff

theorem Draw.inProgress_iff (n : Word) (d : Draw) :
    d.inProgress n = true ↔ distance n d.start < d.length.toNat ∨ distance n d.start = 65535 := by
  unfold Draw.inProgress; rw [Bool.or_eq_true, decide_eq_true_iff, decide_eq_true_iff]; rfl

theorem enterDraw_nodup (d : Draw) (l : List Draw) (h : (l.map Draw.station).Nodup) :
    ((enterDraw d l).map Draw.station).Nodup := by
  unfold enterDraw
  rw [List.map_append, List.nodup_append]
  refine ⟨h.sublist (List.Sublist.map _ (List.filter_sublist)), by simp, ?_⟩
  intro a ha b hb
  simp only [List.mem_map, List.mem_filter] at ha
  simp only [List.map_cons, List.map_nil, List.mem_singleton] at hb
  obtain ⟨x, ⟨_, hx⟩, rfl⟩ := ha
  subst hb
  simpa using hx

/-! ### The gate queue (R157, R158) -/

theorem gateDistance_inj (i : Image) (n p q : Word) (h : gateDistance i n p = gateDistance i n q) :
    p = q := by
  unfold gateDistance at h
  have h' := BitVec.eq_of_toNat_eq h
  apply BitVec.eq_of_toNat_eq
  have := congrArg BitVec.toNat h'
  have := n.isLt; have := p.isLt; have := q.isLt; have := (BitVec.ofNat 16 i.gateOffset).isLt
  simp only [BitVec.toNat_sub, BitVec.toNat_add] at *; omega

theorem gatePlace_perm (i : Image) (n : Word) (e : GateEntry) (l : List GateEntry) :
    (gatePlace i n e l).Perm (e :: l) := by
  induction l with
  | nil => simp [gatePlace]
  | cons x rest ih =>
    unfold gatePlace
    split
    · exact (List.Perm.cons x ih).trans (List.Perm.swap e x rest)
    · exact List.Perm.refl _

/-- Placing a new pitch keeps the queue in strictly ascending order of distance to the gate. -/
theorem gatePlace_sorted (i : Image) (n : Word) (e : GateEntry) (l : List GateEntry)
    (hs : l.Pairwise (fun x y => gateDistance i n x.pitch < gateDistance i n y.pitch))
    (hn : ∀ x ∈ l, x.pitch ≠ e.pitch) :
    (gatePlace i n e l).Pairwise (fun x y => gateDistance i n x.pitch < gateDistance i n y.pitch) := by
  induction l with
  | nil => simp [gatePlace]
  | cons x rest ih =>
    rw [List.pairwise_cons] at hs
    have hx : gateDistance i n x.pitch ≠ gateDistance i n e.pitch :=
      fun h => hn x (by simp) (gateDistance_inj i n _ _ h)
    unfold gatePlace
    split
    · rename_i hle
      rw [List.pairwise_cons]
      refine ⟨?_, ih hs.2 (fun y hy => hn y (List.mem_cons_of_mem _ hy))⟩
      intro y hy
      rcases List.mem_cons.mp ((gatePlace_perm i n e rest).mem_iff.mp hy) with h | h
      · subst h; omega
      · exact hs.1 y h
    · rename_i hlt
      rw [List.pairwise_cons]
      refine ⟨?_, List.pairwise_cons.mpr hs⟩
      intro y hy
      rcases List.mem_cons.mp hy with h | h
      · subst h; omega
      · have := hs.1 y h; omega

end Sys2Proof.Machine
end

