-- ==== Sys2Proof/Laws/Cycle.lean ====
section
/-! SUPPORT. The capping cycle's shared operations: the record in the chuck, an own verdict, the hand to the
gate. -/

namespace Sys2Proof.Machine

variable (s : State)

/-- The record of the cycle is found, with its measurements, where it stands. -/
theorem State.chuckJar_holds {pre post : List Jar} {j : Jar} {m : Measurements} (h : s.holds pre j post)
    (hc : s.head.cyclePitch = some j.pitch) (hj : j.st = .inChuck m) : s.chuckJar? = some (j, m) := by
  simp [State.chuckJar?, hc, State.findJar_holds s h, hj]

/-- The cycle stands at the begin of HOLD exactly where its jar's distance says so (R117). -/
theorem State.atHoldBegin_of {p : Word} (h : s.head.cyclePitch = some p) :
    s.atHoldBegin = true ↔ distance s.clk.n p = holdBegin s.cfg s.head.plan := by
  simp only [State.atHoldBegin, h, State.dist]; exact decide_eq_true_iff

/-- Without a cycle pitch there is no record in the chuck. -/
theorem State.chuckJar_none (h : s.head.cyclePitch = none) : s.chuckJar? = none := by
  simp [State.chuckJar?, h]

/-- Without gate role no verdict is handed to the gate. -/
theorem State.handToGate_none (p : Word) (v : Verdict) (disp : Disposition) (h : s.cfg.gateRole = false) :
    s.handToGate p v disp = s := by
  unfold State.handToGate; split
  · simp [h]
  · rfl

/-- A PASS is never handed to the gate. -/
theorem State.handToGate_pass (p : Word) (v : Verdict) : s.handToGate p v .pass = s := rfl

/-- The insertion into the gate queue moves the gate and the counters alone. -/
theorem State.gateInsert_frame (p : Word) (v : Verdict) :
    s.gateInsert p v
      = { s with gate := (s.gateInsert p v).gate, counters := (s.gateInsert p v).counters } := by
  unfold State.gateInsert; simp only []; split
  · rfl
  · split <;> rfl

/-- An own verdict with room in the queue and without gate role: record, counter, DONE (R147). -/
theorem State.setOwnVerdict_holds {pre post : List Jar} {j : Jar} (v : Verdict) (m : Measurements)
    (ctr : Fin 30) (h : s.holds pre j post) (hv : ctrOwnVerdict? v = some ctr)
    (hg : s.cfg.gateRole = false) (hq : s.line.queue.length < 8) :
    s.setOwnVerdict j v m
      = { s with
          track := pre ++ { j with
            st := .done v (.station s.cfg.own) (dispositionOf s.cfg v j.nearFlag) (some m) } :: post
          line := { s.line with queue :=
            s.line.queue ++ [doneFrame j v (dispositionOf s.cfg v j.nearFlag) m] } }.count ctr := by
  unfold State.setOwnVerdict
  simp only []
  rw [State.handToGate_none]
  · rw [State.putJar_holds s { j with
      st := .done v (.station s.cfg.own) (dispositionOf s.cfg v j.nearFlag) (some m) } h rfl]
    simp only [State.countOwnVerdict, hv]
    rw [State.enqueue_room _ _ (by simpa using hq)]
    rfl
  · rw [State.enqueue]; simp only [State.countOwnVerdict, hv]; split <;> simpa using hg

end Sys2Proof.Machine
end

