-- ==== Sys2Proof/Laws/Frames.lean ====
section
/-! SUPPORT. What a good frame does before its owner takes it (R70, R71), said once for every kind. -/

namespace Sys2Proof.Machine

variable (s : State)

theorem inStep_self (n : Word) : inStep n n = true := by simp [inStep]

theorem Peer.isMismatched_iff (p : Peer) : p.isMismatched = true ↔ p.setApart := by
  unfold Peer.isMismatched Peer.setApart; split <;> simp_all

/-- A frame in step from a peer that is not set apart, or a HELLO of any peer, goes to its owner. -/
theorem State.takeKind_heard (k : Station) (kind : Kind) (jar : Word) (a b : Byte) (h : s.hears k)
    (hm : ¬ (s.peer k).setApart ∨ kind = .hello) :
    s.takeKind (senderCode k) kind jar a b
      = (s.noteInStep k kind).deliver ⟨k, kind, s.clk.n, jar, a, b⟩ := by
  simp only [State.takeKind, senderCode_toNat, stationOf_stationNum, State.takeFrame, h.1, h.2,
    inStep_self, if_true]
  rw [if_neg (by simp), if_neg]
  rcases hm with hm | hm
  · rw [← Peer.isMismatched_iff] at hm; simp [hm]
  · simp [hm]

/-- The sender's record after a CLAIM, RELEASE, DONE or STEAM in step. -/
theorem State.noteInStep_heard (k : Station) (kind : Kind) (h1 : kind ≠ .hello) (h2 : kind ≠ .withdraw) :
    s.noteInStep k kind = s.putPeer k ((s.peer k).heard s.clk.n) := by
  simp only [State.noteInStep, Peer.heard, h1, h2]
  cases (s.peer k).st <;> simp

/-- The sender's record after a HELLO or a WITHDRAW in step. -/
theorem State.noteInStep_hello (k : Station) (kind : Kind) (h : kind = .hello ∨ kind = .withdraw) :
    s.noteInStep k kind
      = s.putPeer k { s.peer k with skew := 0, lastHeard := some s.clk.n } := by
  simp only [State.noteInStep, h]
  cases (s.peer k).st <;> simp

/-- Where no frame is taken: outside a run. -/
theorem State.takeKind_idle (c : BitVec 4) (kind : Kind) (jar : Word) (a b : Byte) (h : s.inRun = false) :
    s.takeKind c kind jar a b = s := by
  simp only [State.takeKind, State.takeFrame, h]; split <;> simp

/-- A frame with no station number is a bad frame. -/
theorem State.takeKind_bad (c : BitVec 4) (kind : Kind) (jar : Word) (a b : Byte) (h : s.inRun = true)
    (hc : c.toNat = 0 ∨ 9 ≤ c.toNat) : s.takeKind c kind jar a b = s.count ctrBadFrames := by
  simp only [State.takeKind, stationOf_none hc, h, if_true]

/-- A frame that the watcher assembles, and that this station does not send, is judged (R88, R89). -/
theorem exec_frameReceived (bytes : FrameBytes) (hm : s.ctl.mode ≠ .fault)
    (hw : s.line.watcher = .assembling) (hs : s.line.sending = none) :
    exec (.frameReceived bytes) s
      = .next ({ s with line := { s.line with watcher := .ready, quiet := 0 } }.judgeFrame bytes) := by
  simp only [exec, execFrameReceived]; rw [if_pos ⟨hm, hw, hs⟩]

end Sys2Proof.Machine
end

