-- ==== Sys2Proof/Laws/Service.lean ====
section
/-! SUPPORT. The service port's address and the START check's list, each said once. -/

namespace Sys2Proof.Machine

variable (s : State)

/-- The port answers exactly its own address outside the silent span (R175). -/
theorem State.answers_iff (t : BitVec 7) : s.answers t = true ↔ s.addressed t := by
  unfold State.answers State.addressed State.portAddress
  have h : (0x3A#7 + s.pins.straps.svAdr.setWidth 7).toNat = 0x3A + s.pins.straps.svAdr.toNat := by
    have := s.pins.straps.svAdr.isLt
    simp [BitVec.toNat_add]; omega
  simp only [Bool.and_eq_true, beq_iff_eq, Bool.not_eq_true']
  constructor
  · rintro ⟨h1, h2⟩; exact ⟨by rw [h1]; exact h, h2⟩
  · rintro ⟨h1, h2⟩; exact ⟨BitVec.eq_of_toNat_eq (h1.trans h.symm), h2⟩

/-- The place of the first false entry is 0 exactly when there is none. -/
theorem firstFailing_zero (l : List Bool) : firstFailing l = 0 ↔ ∀ b ∈ l, b = true := by
  induction l with
  | nil => simp [firstFailing]
  | cons b l ih =>
    cases b
    · simp [firstFailing]
    · simp only [firstFailing]; split <;> simp_all

theorem firstFailing_le (l : List Bool) : firstFailing l ≤ l.length := by
  induction l with
  | nil => simp [firstFailing]
  | cons b l ih =>
    cases b
    · simp [firstFailing]
    · simp only [firstFailing]; split
      · simp
      · simp; omega

/-- A place that is not 0 holds a false entry, and every entry before it is true. -/
theorem firstFailing_succ (l : List Bool) (n : Nat) (h : firstFailing l = n + 1) :
    l[n]? = some false ∧ ∀ m < n, l[m]? = some true := by
  induction l generalizing n with
  | nil => simp [firstFailing] at h
  | cons b l ih =>
    cases b
    · simp only [firstFailing] at h
      have : n = 0 := by omega
      subst this; simp
    · simp only [firstFailing] at h
      rcases hl : firstFailing l with _ | k
      · simp [hl] at h
      · simp only [hl] at h
        have hn : n = k + 1 := by omega
        subst hn
        obtain ⟨i1, i2⟩ := ih k hl
        refine ⟨by simpa using i1, fun m hm => ?_⟩
        rcases m with _ | m
        · simp
        · simpa using i2 m (by omega)

/-- The strobe condition as the machine tests it (R5). -/
theorem strobeAt_iff (i : Image) (h : Word) : strobeAt i h = true ↔ strobeCondition i h.toNat := by
  unfold strobeAt strobeCondition
  rcases hi : i.edge.toNat with _ | _ | _ | n <;> simp

end Sys2Proof.Machine
end

