-- ==== Sys2Proof/Laws/Strobe.lean ====
section
/-! SUPPORT. The parts of a pitch strobe, each with the condition under which it has nothing to do. -/

namespace Sys2Proof.Machine

variable (s : State)

/-- In RUN and WITHDRAWN the command PITCH_STROBE is the strobe. -/
theorem exec_pitchStrobe (pins : StrobePins) (h : s.inRun = true) :
    exec (.pitchStrobe pins) s = .next (s.strobe pins) := by
  simp [exec, execPitchStrobe, h]

theorem State.inRun_of_run (h : s.ctl.mode = .run) : s.inRun = true := by
  simp [State.inRun, h, Mode.inRun]

theorem State.gateDecision_none (h : s.cfg.gateRole = false) : s.gateDecision = s := by
  simp [State.gateDecision, h]

theorem State.exitDecision_none (h : s.cfg.gateRole = false) : s.exitDecision = s := by
  simp [State.exitDecision, h]

/-- No record retires and none is sighted. -/
theorem State.ageTrack_none (pins : StrobePins) (he : pins.eye = false)
    (h : ∀ j ∈ s.track, s.dist j.pitch < s.cfg.retireDistance) : s.ageTrack pins = s := by
  have : s.track.filter (fun j => decide (s.dist j.pitch < s.cfg.retireDistance)) = s.track :=
    List.filter_eq_self.mpr (fun j hj => by simpa using h j hj)
  simp [State.ageTrack, he, this]

/-- No promise falls due. -/
theorem State.lapseChecks_none (h : ∀ j ∈ s.track, j.dueAt s.clk.n = false) : s.lapseChecks = s := by
  have : s.track.filter (Jar.dueAt s.clk.n) = [] :=
    List.filter_eq_nil_iff.mpr (fun j hj => by simp [h j hj])
  simp [State.lapseChecks, this]

theorem State.vacateChuck_ready (h : s.head.chuck ≠ .lift) (h' : s.head.chuck ≠ .returning) :
    s.vacateChuck = s := by
  unfold State.vacateChuck; split <;> simp_all

/-- No cycle begins: the busy count falls. -/
theorem State.engageOrFall_none (pins : StrobePins) (h : s.ctl.mode = .run → s.jarToEngage? = none) :
    s.engageOrFall pins = { s with claims := { s.claims with busy := s.claims.busy - 1 } } := by
  unfold State.engageOrFall
  by_cases hm : s.ctl.mode = .run
  · simp [hm, h hm]
  · simp [hm]

theorem State.jarToEngage_none (h : ∀ j ∈ s.track, j.isClaimed = false) : s.jarToEngage? = none := by
  unfold State.jarToEngage?
  exact List.find?_eq_none.mpr (fun j hj => by simp [h j hj])

theorem State.endDraws_none (h : s.steam.draws = []) : s.endDraws = s := by
  simp [State.endDraws, h]
  rw [← h]

/-- No record in the claim range is claimable. -/
theorem State.claimTest_none
    (h : ∀ j ∈ s.track, s.cfg.entryOffset - s.cfg.claimLead ≤ s.dist j.pitch →
      s.dist j.pitch < s.cfg.entryOffset → stateTest j = false) : s.claimTest = s := by
  unfold State.claimTest
  split
  · have key : ∀ l : List Word, (∀ p ∈ l, ∀ j, s.findJar p = some j → stateTest j = false) →
        l.foldl State.claimOne s = s := by
      intro l
      induction l with
      | nil => intro _; rfl
      | cons p rest ih =>
        intro hl
        have h1 : s.claimOne p = s := by
          unfold State.claimOne
          split
          · rename_i j hj
            simp [claimable, hl p (by simp) j hj]
          · rfl
        rw [List.foldl_cons, h1]
        exact ih (fun q hq => hl q (List.mem_cons_of_mem _ hq))
    apply key
    intro p hp j hj
    simp only [State.claimRange, List.mem_map, List.mem_filter, Bool.and_eq_true, decide_eq_true_eq] at hp
    obtain ⟨x, ⟨_, hlo, hhi⟩, hxp⟩ := hp
    obtain ⟨hmem, hpj⟩ := s.findJar_some hj
    rw [hxp, ← hpj] at hlo hhi
    exact h j hmem hlo hhi
  · rfl

theorem State.stageWork_none (pins : StrobePins) (h : s.head.cyclePitch = none) :
    s.stageWork pins = s := by
  simp [State.stageWork, h]

/-- No own record stands at the probe. -/
theorem State.probe_none (pins : StrobePins)
    (h : ∀ j ∈ s.track, s.dist j.pitch = s.cfg.probeDistance → ∀ m, j.st ≠ .probeWait m) :
    s.probe pins = s := by
  have : s.jarAtProbe? = none := by
    unfold State.jarAtProbe?
    apply List.find?_eq_none.mpr
    intro j hj hc
    simp only [Bool.and_eq_true, decide_eq_true_eq] at hc
    obtain ⟨h1, h2⟩ := hc
    split at h1
    · rename_i m hm; exact h j hj h2 m hm
    · simp at h1
  simp [State.probe, this]

end Sys2Proof.Machine
end

