-- ==== Sys2Proof/Tests/Slice0.lean ====
section
/-! SUPPORT. The author's own checks: the ill-formed commands, figures of the spec's worked examples, one
small step each, and for each obligation with hypotheses a state that meets them. -/

namespace Sys2Proof.Tests

open Sys2Proof.Machine

/-! ### Helpers -/

/-- The settings of the worked cycle of chapter 6 and the worked figures of chapter 8, on station 3. -/
def cfg : Image :=
  #v[3, 0, 3, 6, 12, 10, 2, 3, 2, 3, 2, 2, 1, 0x99, 3, 0xFF, 0, 3, 2, 2, 0, 26, 60, 160, 4, 20, 6, 10, 0, 90,
    0, 70, 20]

/-- The same with byte 1 (the role and option bits) given. -/
def cfgWith (options : Byte) : Image := cfg.set 1 options

/-- A station in RUN at pitch `n` under the settings `i`. -/
def runAt (i : Image) (n : Word) : State :=
  { State.reset with
    ctl := { State.reset.ctl with mode := .run, image := i, taken := i, portSilent := false }
    clk := ⟨⟨false, false⟩, 40, 40, n⟩
    head := Head.idle (planOf i)
    verdicts := { VerdictUnit.zero with profile := Vector.replicate 16 ⟨110, 60, 120⟩ } }

/-- A station in STANDBY with the image `i`. -/
def standby (i : Image) : State :=
  { runAt i 0 with ctl := { (runAt i 0).ctl with mode := .standby } }

/-- The jar of pitch 4000, in band 2. -/
def jar (st : JarState) : Jar := ⟨4000, 171, some 2, st, false, false, false, false, .noFlush⟩

/-- A strobe with no jar sighted, a cap in the chuck, and the probe readings of the worked figures. -/
def dark : StrobePins := ⟨false, 0, false, true, 2410, 2290⟩

/-- A run with the jar alone in the track, which stands at distance `d` after the next strobe. -/
def scene (i : Image) (st : JarState) (d : Nat) : State :=
  { runAt i (4000 + BitVec.ofNat 16 d - 1) with track := [jar st] }

/-- The same with the jar in a cycle: the chuck in a stage. -/
def cycle (i : Image) (m : Measurements) (chuck : Chuck) (d : Nat) : State :=
  { scene i (.inChuck m) d with
    head :=
      { Head.idle (planOf i) with
        chuck := chuck, cyclePitch := some 4000, capFound := true, phase := .running
        entry := ⟨110, 60, 120⟩ } }

/-- The same state in another mode. -/
def inMode (s : State) (mode : Mode) : State := { s with ctl := { s.ctl with mode := mode } }

/-- The settings without gate role and with it, each in RUN and in WITHDRAWN. -/
def fourWays (f : Image → State) : List State :=
  [inMode (f cfg) .run, inMode (f cfg) .withdrawn, inMode (f (cfgWith 1)) .run, inMode (f (cfgWith 1)) .withdrawn]

/-- A run with the jar in the track, the chuck and its return count given. -/
def chuckScene (st : JarState) (chuck : Chuck) (left d : Nat) (i : Image) : State :=
  { scene i st d with head := { Head.idle (planOf i) with chuck := chuck, returnLeft := left } }

def measured (peak theta : Byte) : Measurements := ⟨peak, theta, none⟩

/-- The jar in a cycle in DRIVE, with the phase and the seat given. -/
def drivingIn (i : Image) (m : Measurements) (phase : DrivePhase) (seat : Bool) (d : Nat := 19) : State :=
  { cycle i m .drive d with
    head := { (cycle i m .drive d).head with phase := phase, seatReached := seat } }

/-- The state after a command; the state before it where there is none. -/
def after (c : Instr) (s : State) : State :=
  match exec c s with
  | .next t => t
  | _ => s

/-- Another peer's record in a given state. -/
def withPeer (k : Station) (st : PeerState) (s : State) : State :=
  s.putPeer k { s.peer k with st := st }

/-- The watcher assembles a frame. -/
def assembling (s : State) : State := { s with line := { s.line with watcher := .assembling } }

/-! ### Ill-formed commands: a station field of 0 or 9 names no station (R89) -/

theorem test_wf_drawEnd : (Instr.drawEnd 0).wf = false ∧ (Instr.drawEnd 9).wf = false := by decide
theorem test_wf_helloTaken : (Instr.helloTaken 0 0 0 0).wf = false ∧ (Instr.helloTaken 9 0 0 0).wf = false := by
  decide
theorem test_wf_claimTaken : (Instr.claimTaken 0 0 0 0).wf = false ∧ (Instr.claimTaken 9 0 0 0).wf = false := by
  decide
theorem test_wf_releaseTaken : (Instr.releaseTaken 0 0).wf = false ∧ (Instr.releaseTaken 9 0).wf = false := by
  decide
theorem test_wf_doneTaken : (Instr.doneTaken 0 0 0 0).wf = false ∧ (Instr.doneTaken 9 0 0 0).wf = false := by
  decide
theorem test_wf_steamTaken : (Instr.steamTaken 0 0 0 0).wf = false ∧ (Instr.steamTaken 9 0 0 0).wf = false := by
  decide
theorem test_wf_withdrawTaken : (Instr.withdrawTaken 0 0).wf = false ∧ (Instr.withdrawTaken 9 0).wf = false := by
  decide
theorem test_wf_ends : (Instr.drawEnd 1).wf = true ∧ (Instr.drawEnd 8).wf = true := by decide

/-! ### Figures of the spec -/

/-- Section 6.1, "Trimming a plan". -/
theorem test_plan_trimmed : planOf cfg = ⟨2, 3, 2, 1, 10, 1⟩ := by decide

/-- Section 6.1: the stages begin at 14, 17, 18, 20 and 21, and the cycle ends at 22. -/
theorem test_stage_distances :
    [flushBegin cfg (planOf cfg), seatBegin cfg (planOf cfg), driveBegin cfg (planOf cfg),
      holdBegin cfg (planOf cfg), liftBegin cfg (planOf cfg), cycleEnd cfg (planOf cfg)]
      = [14, 17, 18, 20, 21, 22] := by decide

/-- Section 1.1, "Reverse and recovery": the seventh down step from C = H = 40 stops the run. -/
theorem test_reverse_stops :
    (after (.encoderStep ⟨false, true⟩ dark)
      { runAt cfg 3 with clk := ⟨⟨false, false⟩, 34, 40, 3⟩ }).ctl.stopCause = .reverse := by decide

/-- The same sequence: the sixth down step is within the allowance. -/
theorem test_reverse_allowed :
    (after (.encoderStep ⟨false, true⟩ dark)
      { runAt cfg 3 with clk := ⟨⟨false, false⟩, 35, 40, 3⟩ }).ctl.mode = .run := by decide

/-- Section 1.1: under k = 3 and RISE the step that makes H = 40 is a strobe. -/
theorem test_up_step_strobes :
    (after (.encoderStep ⟨true, false⟩ dark)
      { runAt cfg 2 with clk := ⟨⟨false, false⟩, 39, 39, 2⟩ }).clk = ⟨⟨true, false⟩, 40, 40, 3⟩ := by decide

/-- Section 1.4, "A jar across the wrap": pitch 65530 stands at distance 12 at N = 6. -/
theorem test_distance_wraps : distance 6 65530 = 12 := by decide

/-- Section 1.4: a CLAIM's promise distance 25 from pitch 65530 is the promise pitch 19. -/
theorem test_promise_wraps : promisePitch 65530 25 = 19 := by decide

/-- Section 1.4: stamps 65535 and 1 from N = 0 and 65535 are in step; 3 at N = 5 and 2 at N = 0 are not. -/
theorem test_in_step :
    inStep 65535 0 = true ∧ inStep 0 65535 = true ∧ inStep 3 5 = false ∧ inStep 2 0 = false := by decide

/-- Chapter 8: T = 171 is band 2, T = 254 band 15, T = 160 band 0, and T = 255 has none. -/
theorem test_bands :
    bandOf cfg 171 = some 2 ∧ bandOf cfg 254 = some 15 ∧ bandOf cfg 160 = some 0 ∧ bandOf cfg 255 = none := by
  decide

/-- Section 6.5: 43 steps on from 40, the sample of 112 ends the drive with peak 112 and angle 83. -/
theorem test_drive_reaches_target :
    let s := cycle cfg (measured 64 83) .drive 19
    let t := after (.torqueSample 112) { s with head := { s.head with seatReached := true } }
    t.head.phase = .ended ∧ t.track = [jar (.inChuck (measured 112 83))] := by decide

/-- Chapter 8, "At the limits of the arithmetic": seat and target in one sample of 25 are CROSSED. -/
theorem test_drive_crossed :
    let s := cycle (cfg.set 25 20) (measured 0 0) .drive 19
    let t := after (.torqueSample 25) { s with head := { s.head with entry := ⟨20, 10, 120⟩ } }
    t.head.chuck = .lift ∧ t.line.queue.map TxFrame.payA = [0x15] := by decide

/-- Chapter 8: an angle step counts after the seat, and 255 holds. -/
theorem test_angle_saturates :
    let s := cycle cfg (measured 64 255) .drive 19
    (after .angleStep { s with head := { s.head with seatReached := true } }).track
      = [jar (.inChuck (measured 64 255))] := by decide

/-- Chapter 8: an expiry at 105 with the seat reached passes with NEAR; at 103 it is UNDER. R117: neither one
pitch before the HOLD begin distance 20. -/
theorem test_drive_expires :
    let s (peak : Byte) (d : Nat) : State := drivingIn cfg (measured peak 70) .running true d
    (after .driveExpiry (s 105 21)).track.map Jar.nearFlag = [true]
      ∧ (after .driveExpiry (s 103 21)).counters.get 7 = 1
      ∧ (after .driveExpiry (s 103 20)).head.chuck = .drive := by decide

/-- Chapter 8, "A closure judged good": d = 120, GOOD, PASS, and a DONE with payloads 0 and 7. -/
theorem test_probe_good :
    let s := scene cfg (.probeWait (measured 118 83)) 24
    let t := after (.pitchStrobe dark) { s with track := s.track.map (fun j => { j with flush := .full }) }
    t.counters.get 4 = 1 ∧ t.line.queue = [⟨.done, 4000, 0, 7⟩] := by decide

/-- Chapter 8: a short flush and q = 2345 give LOW_VAC, REJECT, the short bit and 65 div 16 = 4. -/
theorem test_probe_low_vac :
    let s := scene cfg (.probeWait (measured 118 83)) 24
    (after (.pitchStrobe { dark with panel := 2345 })
      { s with track := s.track.map (fun j => { j with flush := .short }) }).line.queue
        = [⟨.done, 4000, 0x91, 4⟩] := by decide

/-- Section 6.6, N = 4012: ENGAGE with no cap is a re-pick, no retry is left, and the busy count is 13. -/
theorem test_engage_repick :
    let t := after (.pitchStrobe { dark with capInChuck := false }) (scene cfg .claimed 12)
    t.head.chuck = .engage ∧ t.head.retriesLeft = 0 ∧ t.claims.busy = 13 ∧ t.chuckDn = false := by decide

/-- Section 6.6, N = 4022: the cycle ends, the record waits for the probe, three return pitches are left. -/
theorem test_cycle_ends :
    let t := after (.pitchStrobe dark) (cycle cfg (measured 118 83) .lift 22)
    t.head.chuck = .returning ∧ t.head.returnLeft = 3
      ∧ t.track = [jar (.probeWait (measured 118 83))] := by decide

/-- Section 6.4: the last valve pitch closes STEAM_V. -/
theorem test_valve_closes :
    let s := cycle cfg (measured 0 0) .flush 16
    (after .valveClose { s with head := { s.head with valveLeft := 1 } }).steamV = false := by decide

/-- Section 6.6, N = 4025: the last return pitch leaves the chuck READY. -/
theorem test_return_ends :
    let s := runAt cfg 4025
    (after .returnEnd { s with head := { s.head with chuck := .returning, returnLeft := 1 } }).head.chuck
      = .ready := by decide

/-- Chapter 7, N = 804: the draw of 800, length 4, ends. -/
theorem test_draw_ends :
    let s := runAt cfg 804
    (after (.drawEnd 1) { s with steam := ⟨[⟨0, 800, 4⟩], 0, false⟩ }).steam.draws = [] := by decide

/-- Chapter 9, N = 3064: the entry 3004 is due at G = 60, leaves the queue, and rejects. -/
theorem test_gate_rejects :
    let s := runAt (cfgWith 1) 3063
    let t := after (.pitchStrobe dark) { s with gate := ⟨[⟨3004, .uncapped⟩], true, .reject⟩ }
    t.gate = ⟨[], false, .reject⟩ ∧ t.counters.get ctrGateRejects = 1 := by decide

/-- Section 4.3: the HELLO of station 8 fails on the pitch definition first, and sets both gate flags. -/
theorem test_hello_pitch_def :
    let i := (((((cfgWith 1).set 0 5).set 2 6).set 4 14).set 21 40)
    let t := after (.helloTaken 8 (wordOf 30 41) 0x16 0x85) (runAt i 0)
    (t.peer 7).st = .mismatched .pitchDef ∧ t.peers.gateConflict = true ∧ t.peers.gateShort = true := by decide

/-- Section 4.3: the HELLO of station 3, below 5 with 9 below 14, makes it LIVE. -/
theorem test_hello_live :
    let i := (((((cfgWith 1).set 0 5).set 2 6).set 4 14).set 21 40)
    ((after (.helloTaken 3 (wordOf 9 20) 0x06 0x03) (runAt i 0)).peer 2).st = .live := by decide

/-- Section 4.6: the lapse that reaches the park limit parks station 3 with an empty refresh set. -/
theorem test_lapse_parks :
    let s := scene (cfg.set 0 5) (.heldPeer 2 4025 true) 25
    let t := after (.lapse 4000)
      ({ s with clk := { s.clk with n := 4025 } }.putPeer 2 ⟨.live, none, 1, 0, none⟩)
    (t.peer 2).st = .parked 0 ∧ (t.peer 2).lapses = 2 ∧ t.counters.get ctrLapses = 1 := by decide

/-- R58: a promise distance equal to the record's distance at the CLAIM takes no lapse, and one above it does. -/
theorem test_promise_passed :
    let s (d : Nat) : State := withPeer 1 .live (scene cfg .openJar d)
    let t (d : Nat) : State := after (.claimTaken 2 4000 20 0) (s d)
    (after (.lapse 4000) (t 21)).counters.get ctrLapses = 0
      ∧ (after (.pitchStrobe dark) (t 20)).counters.get ctrLapses = 1 := by decide

/-- Section 4.6: the DONE of 1 completes the set of 3, 5 and 7, and station 3 is LIVE with lapse count 0. -/
theorem test_refresh_returns :
    let s := (((runAt ((cfgWith 2).set 0 5) 2040).putPeer 0 ⟨.live, none, 0, 0, none⟩).putPeer 6
      ⟨.live, none, 0, 0, none⟩).putPeer 2 ⟨.parked 0x54, none, 2, 0, none⟩
    let t := after (.doneTaken 1 2000 0 0) s
    (t.peer 2).st = .live ∧ (t.peer 2).lapses = 0 := by decide

/-- Section 4.6: a CLAIM from a PARKED station is an unknown-jar claim. -/
theorem test_claim_of_parked :
    let s := withPeer 1 (.parked 0) (scene cfg .openJar 5)
    (after (.claimTaken 2 4000 25 0) s).counters.get ctrUnknownJarClaims = 1 := by decide

/-- Section 3.3: an own claim yields to an upstream sender's. -/
theorem test_claim_yields :
    let s := withPeer 1 .live { scene cfg .claimed 9 with claims := ⟨1, 0⟩ }
    let t := after (.claimTaken 2 4000 25 0) s
    t.track = [jar (.heldPeer 1 4025 true)] ∧ t.claims.openClaims = 0 ∧ t.counters.get ctrYields = 1 := by decide

/-- Section 3.4: a RELEASE of the claimant reopens the record. -/
theorem test_release_reopens :
    (after (.releaseTaken 2 4000) (withPeer 1 .live (scene cfg (.heldPeer 1 4025 true) 9))).track
      = [{ jar .openJar with reopened := true }] := by decide

/-- Chapter 8, "DONE intake": a DONE that differs from the verdict set leaves it and counts a conflict. -/
theorem test_done_conflict :
    let st : JarState := .done .lowVac (.station 1) .reject none
    let t := after (.doneTaken 4 4000 0 0) (withPeer 3 .live (scene cfg st 13))
    t.track = [{ jar st with conflict := true }] ∧ t.counters.get ctrConflicts = 1 := by decide

/-- Section 7.2: the SHORT of 802 enters a draw and sets the mark. -/
theorem test_steam_marks :
    (after (.steamTaken 5 802 2 1) (withPeer 4 .live (runAt cfg 802))).steam
      = ⟨[⟨4, 802, 2⟩], 0, true⟩ := by decide

/-- Section 4.7: a WITHDRAW makes its sender WITHDRAWN. -/
theorem test_withdraw_taken :
    ((after (.withdrawTaken 2 1) (withPeer 1 .live (runAt cfg 5))).peer 1).st = .withdrawn := by decide

/-- Section 5.1: the check register starts at 0xFF and divides by x^8 + x^2 + x + 1; one zero byte by hand
gives 0xF3. -/
theorem test_crc_zero_byte : crcOf [0x00] = 0xF3 := by decide

set_option maxRecDepth 4000 in
/-- Section 5.2: a frame with a wrong CRC is one bad frame, and a frame whose start was not taken is none. -/
theorem test_bad_crc :
    let f : FrameBytes := ⟨0x12, 0, 0, 0, 0, 0, 0, 0⟩
    (after (.frameReceived f) (assembling (runAt cfg 0))).counters.get ctrBadFrames = 1
      ∧ after (.frameReceived f) (runAt cfg 0) = runAt cfg 0 := by decide

/-- Section 5.4: station 3 may send after 16 + 12 = 28 quiet bit times, and not at 27. -/
theorem test_gap :
    let s := { runAt cfg 7 with line := ⟨[releaseFrame 5], none, 0, .ready, 0⟩ }
    (after (.sendAttempt 27) s).line.sending = none ∧ (after (.sendAttempt 28) s).line.quiet = 0 := by decide

/-- Section 5.4: a collision raises the head's retry count and leaves it at the head. -/
theorem test_collision :
    let s := { runAt cfg 7 with
      line := ⟨[releaseFrame 5], some ⟨releaseFrame 5, loadFrame 3 7 (releaseFrame 5), false, false⟩, 4,
        .assembling, 0⟩ }
    (after .collision { s with line := { s.line with retries := 3 } }).line.retries = 4
      ∧ (after .collision s).line.queue = [] := by decide

/-- Section 5.4: a completed send leaves the queue and is counted. -/
theorem test_send_complete :
    let s := { runAt cfg 7 with
      line := ⟨[releaseFrame 5], some ⟨releaseFrame 5, loadFrame 3 7 (releaseFrame 5), false, false⟩, 4,
        .assembling, 0⟩ }
    (after .sendComplete s).line = ⟨[], none, 0, .ready, 0⟩
      ∧ (after .sendComplete s).counters.get ctrFramesSent = 1 := by decide

/-- Section 5.2: 12 quiet bit times inside a frame do not abandon it, and 13 do. -/
theorem test_abandoned :
    let s := { runAt cfg 7 with line := ⟨[], none, 0, .assembling, 0⟩ }
    (after (.frameAbandoned 12) s).line.watcher = .assembling
      ∧ (after (.frameAbandoned 13) s).line.watcher = .waiting := by decide

/-- Section 5.2: a malformed frame is one bad frame. -/
theorem test_malformed :
    (after .malformedFrame { runAt cfg 7 with line := ⟨[], none, 0, .assembling, 0⟩ }).counters.get
      ctrBadFrames = 1 := by decide

/-- Section 5.2: a waiting watcher takes a frame start after 12 quiet bit times, and not after 11. -/
theorem test_frame_start :
    let s := { runAt cfg 7 with line := ⟨[], none, 0, .waiting, 0⟩ }
    (after (.frameStart 11) s).line.watcher = .waiting
      ∧ (after (.frameStart 12) s).line.watcher = .assembling := by decide

/-- Section 10.4: these settings pass the START check; a claim lead of 12 at E = 12 fails check 7 first. -/
theorem test_start_check : startCheck cfg = 0 ∧ startCheck (cfg.set 7 12) = 7 := by decide

/-- Section 10.4: a START with no cap in the chuck begins the return with Rt = 3. -/
theorem test_start_returns :
    let t := after (.startAttempt false) (standby cfg)
    t.ctl.mode = .run ∧ t.head.chuck = .returning ∧ t.claims.busy = 3
      ∧ t.line.queue = [⟨.hello, 0x0C18, 0x03, 0x03⟩] := by decide

/-- Section 10.5: a run-stop during FLUSH counts an aborted cycle and shuts the valve. -/
theorem test_run_stop :
    let t := after .runStop (cycle cfg (measured 0 0) .flush 15)
    t.ctl.mode = .standby ∧ t.counters.get ctrAborted = 1 ∧ t.steamV = false := by decide

/-- Section 6.7, "A head fault during FLUSH": the queue after the withdrawal. -/
theorem test_head_fault :
    let s := cycle cfg (measured 0 0) .flush 16
    let t := after (.headFaultJam .headFault true)
      { s with line := { s.line with queue := [⟨.done, 3990, 0, 7⟩, ⟨.steam, 4014, 2, 1⟩] } }
    t.line.queue = [⟨.done, 3990, 0, 7⟩, ⟨.steam, 4014, 2, 1⟩, ⟨.release, 4000, 0, 0⟩, ⟨.withdraw, 0, 1, 0⟩]
      ∧ t.ctl.mode = .withdrawn := by decide

/-- Section 6.7: CAP_LOW in RUN shows STARVED. -/
theorem test_cap_low : (after (.capLow true) (runAt cfg 0)).starved = true := by decide

/-- Section 10.2: no answer to block 0 is NO_MEMORY; block 8 ends with LOAD_OK. -/
theorem test_autoload :
    (after (.autoloadBlock false (Vector.replicate 9 0)) State.reset).ctl.outcome = .noMemory
      ∧ (after (.autoloadBlock true (Vector.replicate 9 0))
          { State.reset with ctl := { State.reset.ctl with loadBlock := 8 } }).ctl.outcome = .loadOk := by decide

/-- Section 11.3: the write of 3 to item 0x17 in RUN is refused, and status 0x02 has bit 4 set. -/
theorem test_write_refused :
    let t := after (.serviceWrite 3) (after (.itemNumberWrite 0x3A 0x17) (runAt cfg 0))
    t.port.acked = false ∧ t.statusFlags = 0x10 ∧ t.ctl.image = cfg := by decide

/-- Section 8.2: staged amin 60, and amax 40 written, commit amax 60. -/
theorem test_amax_clamped :
    let s := { standby cfg with verdicts := ⟨(standby cfg).verdicts.profile, 4, 2, some 100, some 60⟩ }
    ((after (.torqueDataWrite 0x3A 40) s).verdicts.profile.get 4) = ⟨100, 60, 60⟩ := by decide

/-- Section 8.2: a pointer write of band 5, part 3 takes part 0; a data read moves on. -/
theorem test_torque_pointer :
    let t := after (.torquePointerWrite 0x3A 0x35) (standby cfg)
    t.verdicts.band = 5 ∧ t.verdicts.part = 0
      ∧ (after (.torqueDataRead 0x3A) t).port.dataOut = 110
      ∧ (after (.torqueDataRead 0x3A) t).verdicts.part = 1 := by decide

/-- Section 11.1: N read high byte first is one value, though it moves between the reads. -/
theorem test_latched_pair :
    let s := { runAt cfg 0x01FF with port := { State.reset.port with pointer := 4 } }
    let t := after (.pitchStrobe dark) (after (.highByteRead 0x3A) s)
    t.clk.n = 0x0200 ∧ (after (.highByteRead 0x3A) t).port.dataOut = 0xFF := by decide

/-- Section 11.4: CLEAR zeroes a counter in RUN, and RELOAD is refused there. -/
theorem test_clear_and_reload :
    (after (.clear 0x3A) ((runAt cfg 0).count 4)).counters.get 4 = 0
      ∧ (after (.reload 0x3A) (runAt cfg 0)).port.accessRefused = true := by decide

/-- Section 11.2: three bytes and 21 a record; the record of pitch 4000 shows its distance. -/
theorem test_snapshot :
    let t := after (.snapshotRequest 0x3A 0) (scene cfg .openJar 26)
    t.port.trackView.bytes.take 6 = [1, 0x0F, 0xB9, 0x0F, 0xA0, 25]
      ∧ (after (.viewDataRead 0x3A .track) t).port.dataOut = 1 := by decide

/-- Section 11.2: the own number's peer view has bit 7 set; the gate view of an empty queue has four bytes. -/
theorem test_views :
    (after (.peerViewSelect 0x3A 3) (runAt cfg 0)).port.peerView.bytes.take 1 = [0x80]
      ∧ (after (.gateQueueViewRequest 0x3A 0) (runAt cfg 9)).port.gateView.bytes = [0, 0, 0, 9] := by decide

/-! ### Witnesses: for each obligation with hypotheses, states that meet them, at the boundaries of its clauses

A theorem `witness_<Name>` is about the obligation of that name; its parts stand in the order of the
obligation's clauses. -/

/-- The scene's strobe pins with no cap in the chuck. -/
def capless : StrobePins := { dark with capInChuck := false }

/-- The 32 entries of a full gate queue, 3000 to 3031, at N = 3051 with G = 60. -/
def fullGate : State :=
  { runAt (cfgWith 1) 3051 with
    gate := ⟨(List.range 32).map (fun k => ⟨BitVec.ofNat 16 (3000 + k), .uncapped⟩), false, .pass⟩ }

/-- A line with a frame of a given kind at its head, being sent. -/
def sendingLine (f : TxFrame) (retries : Nat) (doomed : Bool) : BankLine :=
  ⟨[f, releaseFrame 9], some ⟨f, loadFrame 3 7 f, false, doomed⟩, retries, .assembling, 0⟩

theorem witness_StepRunsFrontCommand :
    ({ State.reset with pending := [.runStop] } : State).pending = [.runStop] ∧ State.reset.pending = [] := by
  decide

theorem witness_EncoderSteps :
    (standby cfg).inRun = false
      ∧ (let s (c h : Word) : State := { runAt cfg 2 with clk := ⟨⟨false, false⟩, c, h, 2⟩ }
        (s 39 40).inRun = true ∧ ((s 39 40).clk.phase, ⟨true, false⟩) ∈ upTable ∧ (s 39 40).clk.c ≠ (s 39 40).clk.h
          ∧ (s 38 38).clk.c = (s 38 38).clk.h ∧ ¬ strobeCondition cfg ((s 38 38).clk.h + 1).toNat
          ∧ strobeCondition cfg ((s 39 39).clk.h + 1).toNat
          ∧ ((s 39 39).clk.phase, ⟨true, true⟩) ∉ upTable ∧ ((⟨true, true⟩ : EncPair), (s 39 39).clk.phase) ∉ upTable
          ∧ ((⟨false, true⟩ : EncPair), (s 35 40).clk.phase) ∈ upTable
          ∧ ((s 35 40).clk.h - ((s 35 40).clk.c - 1)).toNat = cfg.allowance
          ∧ cfg.allowance < ((s 34 40).clk.h - ((s 34 40).clk.c - 1)).toNat) := by decide

theorem witness_StrobeAdvancesTrack :
    (scene cfg .openJar 24).TrackLaw ∧ (scene cfg .openJar 24).inRun = true
      ∧ (standby cfg).TrackLaw ∧ (standby cfg).inRun = false := by decide

theorem witness_StrobeSightsJar :
    let s := scene cfg .openJar 24
    let pins (t : Byte) : StrobePins := { dark with eye := true, temp := t }
    s.inRun = true ∧ s.ConfigLaw ∧ s.TrackLaw ∧ (pins 0).eye = true
      ∧ ((pins 255).temp.toNat = 255) ∧ (pins 1).temp.toNat ≠ 0 ∧ (pins 254).temp.toNat ≠ 255
      ∧ (pins 160).temp.toNat ≤ s.cfg.tempBase ∧ s.cfg.tempBase < (pins 161).temp.toNat := by decide

theorem witness_StrobeClaims :
    ∀ d ∈ [9, 11], let s := scene cfg .openJar d
      s.strobeScene dark (jar .openJar) ∧ s.head.cyclePitch = none ∧ s.head.chuck = .ready
        ∧ (jar .openJar).band = some 2 ∧ (jar .openJar).st = .openJar
        ∧ cfg.entryOffset - cfg.claimLead ≤ distance (s.clk.n + 1) 4000
        ∧ distance (s.clk.n + 1) 4000 < cfg.entryOffset := by decide

theorem witness_StrobeEngages :
    (let s := scene cfg .claimed 12;
      s.strobeScene dark (jar .claimed) ∧ s.head.cyclePitch = none ∧ s.head.chuck = .ready
        ∧ distance (s.clk.n + 1) 4000 = cfg.entryOffset ∧ 1 ≤ s.head.plan.engage
        ∧ dark.jarCapped = false ∧ dark.capInChuck = true ∧ capless.capInChuck = false
        ∧ 0 < s.head.plan.retries ∧ ({ dark with jarCapped := true } : StrobePins).jarCapped = true)
      ∧ (let s := scene (cfg.set 14 0) .claimed 12;
        s.strobeScene capless (jar .claimed) ∧ s.head.plan.retries = 0 ∧ 1 ≤ s.head.plan.engage
          ∧ distance (s.clk.n + 1) 4000 = s.cfg.entryOffset)
      ∧ (∀ left ∈ [0, 1],
        let m := measured 0 0
        let s : State :=
          { cycle cfg m .engage 13 with
            head := { (cycle cfg m .engage 13).head with capFound := false, retriesLeft := left } }
        s.strobeScene capless (jar (.inChuck m)) ∧ s.head.cyclePitch = some 4000 ∧ s.head.chuck = .engage
          ∧ s.head.capFound = false ∧ s.head.retriesLeft = left
          ∧ s.cfg.entryOffset < distance (s.clk.n + 1) 4000) := by decide

theorem witness_StrobeStartsFlush :
    let m := measured 0 0
    let s (draws : List Draw) (run : Nat) (mark : Bool) : State :=
      { cycle cfg m .engage 14 with steam := ⟨draws, run, mark⟩ }
    (∀ draws ∈ [([] : List Draw), [⟨0, 4013, 4⟩, ⟨4, 4013, 4⟩, ⟨6, 4013, 4⟩]],
      let t := s draws 2 false
      t.ctl.mode = .run ∧ t.cfg.gateRole = false ∧ t.track = [jar (.inChuck m)] ∧ t.line.queue = []
        ∧ dark.eye = false ∧ distance (t.clk.n + 1) 4000 < t.cfg.retireDistance
        ∧ t.head.cyclePitch = some 4000 ∧ t.head.chuck = .engage ∧ t.head.capFound = true
        ∧ distance (t.clk.n + 1) 4000 = flushBegin t.cfg t.head.plan)
      ∧ ((after (.pitchStrobe dark) (s [] 2 false)).head.valveLeft = 3)
      ∧ ((after (.pitchStrobe dark) (s [] 2 true)).head.valveLeft = 2)
      ∧ ((after (.pitchStrobe dark)
        (s [⟨0, 4013, 4⟩, ⟨4, 4013, 4⟩, ⟨6, 4013, 4⟩] 0 false)).head.valveLeft = 2) := by decide

theorem witness_StrobeRunsStages_expiry :
    (∀ hold ∈ [0, 1], ∀ x ∈ [(DrivePhase.running, true), (.running, false), (.ended, true)],
      let r := drivingIn cfg (measured 104 70) x.1 x.2 20
      let s := { r with head := { r.head with plan := { r.head.plan with hold := hold } } }
      s.strobeScene dark (jar (.inChuck (measured 104 70))) ∧ s.head.cyclePitch = some 4000
        ∧ s.head.chuck = .drive ∧ s.head.phase = x.1 ∧ s.head.seatReached = x.2 ∧ s.head.plan.hold = hold
        ∧ distance (s.clk.n + 1) 4000 = holdBegin s.cfg s.head.plan)
      ∧ 110 ≤ (104 : Byte).toNat + cfg.tolUnder ∧ ¬ 110 ≤ (103 : Byte).toNat + cfg.tolUnder := by decide

theorem witness_StrobeRunsStages_between :
    (runAt cfg 0).ctl.mode = .run ∧ (standby cfg).ctl.mode ≠ .run ∧ cycleEnd cfg (planOf cfg) = 22
      ∧ ∀ x ∈ [(Chuck.seat, 17), (.drive, 19), (.hold, 20), (.lift, 21)],
        let s := cycle cfg (measured 118 83) x.1 x.2
        s.strobeScene dark (jar (.inChuck (measured 118 83))) ∧ s.head.cyclePitch = some 4000
          ∧ s.head.chuck = x.1 ∧ distance (s.clk.n + 1) 4000 = x.2 := by decide

theorem witness_StrobeRunsStages :
    (∀ x ∈ [(Chuck.flush, 16), (.flush, 17), (.seat, 18), (.drive, 20), (.hold, 21)],
      let s := cycle cfg (measured 118 83) x.1 x.2
      s.strobeScene dark (jar (.inChuck (measured 118 83))) ∧ s.head.cyclePitch = some 4000)
      ∧ [seatBegin cfg (planOf cfg), driveBegin cfg (planOf cfg), holdBegin cfg (planOf cfg),
          liftBegin cfg (planOf cfg)] = [17, 18, 20, 21]
      ∧ 0 < (planOf cfg).hold
      ∧ ({ (cycle cfg (measured 118 83) .drive 20).head with phase := .ended } : Head).phase = .ended
      ∧ ¬ 110 + cfg.tolOver < (120 : Byte).toNat ∧ 110 + cfg.tolOver < (121 : Byte).toNat
      ∧ cfg.overPass = false ∧ (cfgWith 4).overPass = true
      ∧ (cycle (cfgWith 4) (measured 121 83) .hold 21).strobeScene dark
          (jar (.inChuck (measured 121 83))) := by decide

theorem witness_StrobeEndsCycle :
    ∀ s ∈ fourWays (fun i => cycle i (measured 118 83) .lift 22),
      s.headScene dark (jar (.inChuck (measured 118 83))) ∧ distance (s.clk.n + 1) 4000 ≠ s.cfg.bankExit
        ∧ s.head.cyclePitch = some 4000 ∧ cycleEnd s.cfg s.head.plan = 22
        ∧ 22 < s.cfg.probeDistance := by decide

theorem witness_StrobeEndsCycle_lift :
    ∀ s ∈ fourWays (chuckScene .openJar .lift 0 12),
      s.headScene dark (jar .openJar) ∧ distance (s.clk.n + 1) 4000 ≠ s.cfg.bankExit
        ∧ s.head.cyclePitch = none ∧ s.head.chuck = .lift
        ∧ s.cfg.entryOffset ≤ distance (s.clk.n + 1) 4000 := by decide

theorem witness_StrobeEndsCycle_returning :
    ∀ s ∈ fourWays (chuckScene .openJar .returning 1 12) ++ fourWays (chuckScene .openJar .returning 2 12),
      s.headScene dark (jar .openJar) ∧ distance (s.clk.n + 1) 4000 ≠ s.cfg.bankExit
        ∧ s.head.cyclePitch = none ∧ s.head.chuck = .returning ∧ 0 < s.head.returnLeft
        ∧ s.cfg.entryOffset ≤ distance (s.clk.n + 1) 4000 := by decide

/-- The scene of the probe: an own PROBE_WAIT record one strobe before E + W + Q. -/
def probeScene : State := scene cfg (.probeWait (measured 118 83)) 24

/-- The strobe levels with these probe readings. -/
def probePins (rim panel : Micron) : StrobePins := { dark with rim := rim, panel := panel }

theorem witness_StrobeProbes_unchecked :
    probeScene.headScene (probePins 2410 4095) (jar (.probeWait (measured 118 83)))
      ∧ probeScene.head.cyclePitch = none ∧ probeScene.head.chuck = .ready
      ∧ distance (probeScene.clk.n + 1) 4000 = probeScene.cfg.probeDistance := by decide

theorem witness_StrobeProbes_good :
    probeScene.headScene (probePins 2320 2230) (jar (.probeWait (measured 118 83)))
      ∧ probeScene.cfg.deflectFull ≤ 2320 - 2230 := by decide

theorem witness_StrobeProbes_lowVac :
    probeScene.headScene (probePins 2319 2230) (jar (.probeWait (measured 118 83)))
      ∧ 2319 - 2230 < probeScene.cfg.deflectFull := by decide

theorem witness_StrobeProbes_domed :
    probeScene.headScene (probePins 2300 2330) (jar (.probeWait (measured 118 83)))
      ∧ 2300 + probeScene.cfg.domeMargin < 2330 := by decide

/-- The chuck at the probe's strobe, in RUN and WITHDRAWN, with gate role and without. -/
theorem witness_StrobeProbes_chuck :
    ∀ x ∈ [(Chuck.ready, 0), (.lift, 0), (.returning, 1), (.returning, 2)],
      ∀ s ∈ fourWays (chuckScene (.probeWait (measured 118 83)) x.1 x.2 24),
        s.headScene dark (jar (.probeWait (measured 118 83))) ∧ s.head.cyclePitch = none
          ∧ s.head.chuck = x.1 ∧ s.head.returnLeft = x.2
          ∧ distance (s.clk.n + 1) 4000 = s.cfg.probeDistance := by decide

/-- The window ends where the probe stands: L = W, Q = 0. -/
theorem witness_StrobeProbes_windowEnd :
    ∀ s ∈ fourWays (fun i => cycle (i.set 6 0) (measured 118 83) .lift 22),
      s.headScene dark (jar (.inChuck (measured 118 83))) ∧ s.head.cyclePitch = some 4000
        ∧ s.head.chuck = .lift ∧ cycleEnd s.cfg s.head.plan = s.cfg.probeDistance
        ∧ distance (s.clk.n + 1) 4000 = s.cfg.probeDistance := by decide

/-- A reject at the probe or at the end of the hold, on the gate-role station, is in the gate queue. -/
theorem test_gate_gets_own_rejects :
    (after (.pitchStrobe (probePins 2319 2230)) (scene (cfgWith 1) (.probeWait (measured 118 83)) 24)).gate.queue
        = [⟨4000, .lowVac⟩]
      ∧ (after (.pitchStrobe dark) (cycle (cfgWith 1) (measured 121 83) .hold 21)).gate.queue
        = [⟨4000, .overTorque⟩] := by decide

theorem witness_StrobeGateDuty_own :
    (∀ x ∈ [(Chuck.hold, 21, 1), (.drive, 20, 0)],
      let m := measured 121 83
      let c := cycle (cfgWith 1) m x.1 x.2.1
      let s : State :=
        { c with head := { c.head with phase := .ended, plan := { c.head.plan with hold := x.2.2 } } }
      s.headScene dark (jar (.inChuck m)) ∧ s.ctl.mode = .run ∧ s.head.cyclePitch = some 4000
        ∧ s.head.chuck = x.1 ∧ s.head.plan.hold = x.2.2
        ∧ distance (s.clk.n + 1) 4000
          = (if x.1 = Chuck.hold then liftBegin s.cfg s.head.plan else holdBegin s.cfg s.head.plan)
        ∧ s.head.entry.target.toNat + s.cfg.tolOver < m.peak.toNat ∧ s.cfg.overPass = false)
      ∧ (let s := scene ((cfgWith 1).set 21 24) (.probeWait (measured 118 83)) 24
        s.headScene dark (jar (.probeWait (measured 118 83))) ∧ s.head.cyclePitch = none
          ∧ s.head.chuck = .ready ∧ distance (s.clk.n + 1) 4000 = s.cfg.bankExit
          ∧ s.cfg.bankExit = s.cfg.probeDistance) := by decide

theorem witness_StrobeGateDuty_exit :
    ∀ st ∈ [JarState.openJar, .heldPeer 1 4026 true, .heldPeer 1 4026 false, .heldPeer 1 4027 true,
        .done .good (.station 1) .pass none],
      let s := scene (cfgWith 1) st 26
      s.inRun = true ∧ s.cfg.gateRole = true ∧ s.track = [jar st] ∧ s.steam.draws = [] ∧ s.line.queue = []
        ∧ s.head.chuck = .ready ∧ s.head.cyclePitch = none ∧ s.gate = ⟨[], false, .pass⟩
        ∧ distance (s.clk.n + 1) 4000 = s.cfg.bankExit ∧ s.cfg.entryOffset < s.cfg.bankExit := by decide

theorem witness_StrobeGateDuty_lapse :
    ∀ lapses ∈ [0, 1],
      let s := (scene (cfgWith 1) (.heldPeer 1 4026 true) 26).putPeer 1 ⟨.live, none, lapses, 0, none⟩
      s.track = [jar (.heldPeer 1 (s.clk.n + 1) true)] ∧ (s.peer 1).st = .live
        ∧ ((s.peer 1).lapses + 1 = s.cfg.parkLimit ↔ lapses = 1) := by decide

theorem witness_StrobeGateDuty_due :
    let s : State := { runAt (cfgWith 1) 3063 with gate := ⟨[⟨3004, .uncapped⟩], true, .reject⟩ }
    s.inRun = true ∧ s.cfg.gateRole = true ∧ s.track = [] ∧ s.steam.draws = [] ∧ s.line.queue = []
      ∧ s.head.chuck = .ready ∧ s.head.cyclePitch = none ∧ s.gate.queue = ⟨3004, .uncapped⟩ :: []
      ∧ (3004 : Word) + BitVec.ofNat 16 s.cfg.gateOffset = s.clk.n + 1 := by decide

theorem witness_StrobeGateDuty_flood :
    let s : State := { runAt (cfgWith 1) 3062 with gate := ⟨[⟨3004, .uncapped⟩], true, .reject⟩ }
    s.cfg.gateRole = true ∧ s.gate.flood = true ∧ s.gate.queue ≠ []
      ∧ (3004 : Word) + BitVec.ofNat 16 s.cfg.gateOffset ≠ s.clk.n + 1 := by decide

theorem witness_StrobeGateDuty_idle :
    (runAt (cfgWith 1) 5).gate.queue.head? = none ∧ (runAt (cfgWith 1) 5).gate.flood = false
      ∧ (runAt cfg 5).cfg.gateRole = false := by decide

theorem witness_GateInsertion :
    fullGate.gate.queue.Pairwise (fun x y =>
        gateDistance fullGate.cfg fullGate.clk.n x.pitch < gateDistance fullGate.cfg fullGate.clk.n y.pitch)
      ∧ fullGate.gate.queue.length = 32 ∧ (∀ e ∈ fullGate.gate.queue, e.pitch ≠ 3032)
      ∧ (∃ e ∈ fullGate.gate.queue, e.pitch = 3031)
      ∧ (fullGate.gate.queue.take 31).length < 32 := by decide

theorem witness_StrobeOccurrences_lapse :
    ∀ d ∈ [8, 9, 11, 12, 24], ∀ lapses ∈ [0, 1], ∀ ahead ∈ [true, false],
      let st : JarState := .heldPeer 1 (4000 + BitVec.ofNat 16 d) ahead
      let s := (scene cfg st d).putPeer 1 ⟨.live, none, lapses, 0, none⟩
      s.strobeScene dark (jar st) ∧ s.head.cyclePitch = none ∧ s.head.chuck = .ready
        ∧ 4000 + BitVec.ofNat 16 d = s.clk.n + 1 ∧ distance (s.clk.n + 1) 4000 = d ∧ (s.peer 1).st = .live
        ∧ ((s.peer 1).lapses + 1 = s.cfg.parkLimit ↔ lapses = 1) ∧ (jar st).band = some 2
        ∧ s.pins.capLow = false ∧ s.cfg.entryOffset = 12 ∧ s.cfg.claimLead = 3 := by decide

theorem witness_StrobeOccurrences_parks :
    let j : Jar := jar (.heldPeer 1 4020 true)
    let j' : Jar := { jar (.heldPeer 1 4020 true) with pitch := 4005 }
    let s := ({ runAt cfg 4019 with track := [j, j'] } : State).putPeer 1 ⟨.live, none, 1, 0, none⟩
    s.ctl.mode = .run ∧ s.cfg.gateRole = false ∧ s.track = [j, j'] ∧ j.pitch ≠ j'.pitch
      ∧ s.steam.draws = [] ∧ s.line.queue = [] ∧ s.head.cyclePitch = none ∧ s.head.chuck = .ready
      ∧ (∀ x ∈ [j, j'], s.cfg.entryOffset ≤ distance (s.clk.n + 1) x.pitch
        ∧ distance (s.clk.n + 1) x.pitch < s.cfg.retireDistance)
      ∧ j.st = .heldPeer 1 (s.clk.n + 1) true ∧ (s.peer 1).st = .live
      ∧ (s.peer 1).lapses + 1 = s.cfg.parkLimit := by decide

set_option maxRecDepth 4000 in
theorem witness_StrobeOccurrences_stale :
    ∀ f ∈ [(⟨.claim, 7, 25, 2⟩ : TxFrame), ⟨.claim, 8, 25, 2⟩, ⟨.steam, 17, 2, 0⟩, ⟨.steam, 18, 2, 0⟩],
      let idle := { runAt cfg 18 with line := { sendingLine f 3 false with sending := none } }
      let s := { runAt cfg 18 with line := sendingLine f 3 false }
      s.inRun = true ∧ s.cfg.gateRole = false ∧ s.track = [] ∧ s.head.cyclePitch = none
        ∧ s.head.chuck = .ready ∧ s.line.queue = [f, releaseFrame 9] ∧ idle.line.queue = [f, releaseFrame 9]
        ∧ idle.line.sending = none ∧ s.line.sending = some ⟨f, loadFrame 3 7 f, false, false⟩ := by decide

theorem witness_StrobeOccurrences :
    (∀ lapses ∈ [0, 1],
      let s := ({ scene cfg (.heldPeer 1 4025 true) 26 with clk := ⟨⟨false, false⟩, 0, 0, 4025⟩ } : State).putPeer 1
        ⟨.live, none, lapses, 0, none⟩
      s.inRun = true ∧ s.holds [] (jar (.heldPeer 1 4025 true)) [] ∧ s.clk.n = 4025 ∧ (s.peer 1).st = .live
        ∧ ((withPeer 1 (.parked 0) s).peer 1).st ≠ .live ∧ s.lacks 4001
        ∧ ((s.peer 1).lapses + 1 = s.cfg.parkLimit ↔ lapses = 1))
      ∧ (4025 : Word) ≠ (scene cfg (.heldPeer 1 4025 true) 25).clk.n
      ∧ (let s := cycle cfg (measured 0 0) .flush 16
        s.ctl.mode = .run ∧ s.head.chuck = .flush ∧ s.head.valveLeft ≠ 1 ∧ s.head.returnLeft ≠ 1
          ∧ ({ s.head with valveLeft := 1 } : Head).valveLeft = 1)
      ∧ ({ Head.idle (planOf cfg) with chuck := .returning, returnLeft := 1 } : Head).chuck = .returning
      ∧ (runAt cfg 804).inRun = true ∧ (standby cfg).inRun = false := by decide

theorem witness_TorqueSampleRunning :
    let m := measured 64 59
    (∀ gate ∈ [false, true], ∀ seat ∈ [false, true],
      let s := drivingIn (if gate then cfgWith 1 else cfg) m .running seat
      s.ctl.mode = .run ∧ s.cfg.gateRole = gate ∧ s.holds [] (jar (.inChuck m)) []
        ∧ s.head.cyclePitch = some 4000 ∧ s.head.chuck = .drive ∧ s.head.phase = .running
        ∧ s.head.seatReached = seat ∧ s.head.entry.target = 110 ∧ s.head.entry.amin = 60
        ∧ s.head.entry.amax = 120 ∧ s.cfg.seatThreshold = 20)
      ∧ ∀ theta ∈ [(60 : Byte), 59, 120, 119],
        let s := drivingIn cfg (measured 64 theta) .running true
        s.holds [] (jar (.inChuck (measured 64 theta))) [] := by decide

theorem witness_DriveSamples :
    let m := measured 64 255
    (∀ x ∈ [(Chuck.drive, DrivePhase.ended), (.drive, .running), (.hold, .ended)],
      let s := { drivingIn cfg m x.2 true with head := { (drivingIn cfg m x.2 true).head with chuck := x.1 } }
      s.ctl.mode = .run ∧ s.holds [] (jar (.inChuck m)) [] ∧ s.head.cyclePitch = some 4000
        ∧ s.head.chuck = x.1 ∧ s.head.phase = x.2 ∧ s.head.seatReached = true)
      ∧ (cycle cfg m .seat 17).head.chuck ≠ .drive ∧ (cycle cfg m .seat 17).head.chuck ≠ .hold
      ∧ (standby cfg).ctl.mode ≠ .run ∧ (cycle cfg m .drive 19).head.seatReached = false := by decide

theorem witness_DriveExpiryJudged :
    (∀ gate ∈ [false, true], ∀ hold ∈ [0, 6], ∀ peak ∈ [(103 : Byte), 104, 116],
      let m := measured peak 70
      let r := drivingIn (if gate then cfgWith 1 else cfg) m .running true 21
      let s := { r with head := { r.head with plan := { r.head.plan with hold := hold } } }
      s.ctl.mode = .run ∧ s.cfg.gateRole = gate ∧ s.holds [] (jar (.inChuck m)) []
        ∧ s.head.cyclePitch = some 4000 ∧ s.head.chuck = .drive ∧ s.head.phase = .running
        ∧ s.head.seatReached = true ∧ s.head.plan.hold = hold ∧ s.head.entry.target = 110
        ∧ s.cfg.tolUnder = 6 ∧ s.cfg.tolOver = 10
        ∧ distance s.clk.n 4000 = holdBegin s.cfg s.head.plan)
      ∧ (runAt cfg 0).head.phase ≠ .running
      ∧ (let s := drivingIn cfg (measured 104 70) .running true 20
        s.head.cyclePitch = some 4000 ∧ distance s.clk.n 4000 ≠ holdBegin s.cfg s.head.plan) := by decide

theorem witness_SendAttemptLoads :
    let s := { runAt cfg 7 with line := ⟨[releaseFrame 5], none, 0, .ready, 0⟩ }
    s.ctl.mode ≠ .fault ∧ (s.line.watcher = .ready ∨ s.line.watcher = .waiting) ∧ s.line.sending = none
      ∧ s.line.queue = [releaseFrame 5] ∧ 16 + 4 * s.cfg.number ≤ s.line.quiet + 28
      ∧ s.line.quiet + 27 < 16 + 4 * s.cfg.number
      ∧ ({ s.line with watcher := .assembling } : BankLine).watcher = .assembling := by decide

set_option maxRecDepth 4000 in
theorem witness_SendCompletes :
    (∀ f ∈ [releaseFrame 5, ⟨.done, 5, 0, 0⟩],
      let s := { runAt cfg 7 with line := sendingLine f 0 false }
      s.line.sending = some ⟨f, loadFrame 3 7 f, false, false⟩ ∧ s.line.queue = [f, releaseFrame 9]
        ∧ s.inRun = true ∧ (f.kind = .done ∨ f.kind = .release))
      ∧ (∀ f ∈ [releaseFrame 5, ⟨.done, 5, 0, 0⟩],
        (BankLine.atStart (sendingLine f 0 false)).sending = some ⟨f, loadFrame 3 7 f, true, false⟩)
      ∧ (runAt cfg 7).line.sending = none := by decide

set_option maxRecDepth 4000 in
theorem witness_CollisionRetries :
    (∀ x ∈ [((⟨.claim, 7, 25, 2⟩ : TxFrame), (19 : Word)), (⟨.claim, 7, 25, 2⟩, 18), (⟨.steam, 7, 2, 0⟩, 9)],
      ∀ retries ∈ [3, 4, 255],
      let s := { runAt cfg x.2 with line := sendingLine x.1 retries (x.2 == 18) }
      s.line.sending = some ⟨x.1, loadFrame 3 7 x.1, false, x.2 == 18⟩ ∧ s.line.queue = [x.1, releaseFrame 9]
        ∧ s.inRun = true ∧ s.cfg.retryCode = 0)
      ∧ cfg.entryOffset ≤ ((19 : Word) - 7).toNat ∧ ¬ cfg.entryOffset ≤ ((18 : Word) - 7).toNat
      ∧ (2 : Byte).toNat ≤ ((9 : Word) - 7).toNat
      ∧ 4 < min 255 (4 + 1) ∧ ¬ 4 < min 255 (3 + 1) := by decide

set_option maxRecDepth 4000 in
theorem witness_RemovalFromQueue :
    (sendingLine (releaseFrame 5) 3 false).queue = [releaseFrame 5, releaseFrame 9]
      ∧ (sendingLine (releaseFrame 5) 3 false).sending
          = some ⟨releaseFrame 5, loadFrame 3 7 (releaseFrame 5), false, false⟩
      ∧ ({ sendingLine (releaseFrame 5) 3 false with sending := none } : BankLine).sending = none := by decide

set_option maxRecDepth 4000 in
theorem witness_FrameReceivedJudged :
    let good (k : Nat) (kind : Kind) (stamp : Word) : FrameBytes := loadFrame k stamp ⟨kind, 4000, 25, 2⟩
    let s := withPeer 1 .live (assembling (runAt cfg 100))
    s.ctl.mode ≠ .fault ∧ s.line.watcher = .assembling ∧ (runAt cfg 100).line.watcher ≠ .assembling
      ∧ (∀ st ∈ [PeerState.absent, .live, .parked 1, .withdrawn, .mismatched .order],
        ((withPeer 1 st s).peer 1).st = st)
      ∧ readFrame? (good 2 .hello 98) = some ⟨1, .hello, 98, 4000, 25, 2⟩ ∧ s.line.sending = none ∧ s.inRun = true ∧ (standby cfg).inRun = false
      ∧ readFrame? { good 2 .claim 100 with b7 := 0 } = none
      ∧ readFrame? (good 3 .claim 100) = some ⟨2, .claim, 100, 4000, 25, 2⟩ ∧ s.cfg.number = stationNum 2
      ∧ readFrame? (good 2 .claim 98) = some ⟨1, .claim, 98, 4000, 25, 2⟩ ∧ s.cfg.number ≠ stationNum 1
      ∧ readFrame? (good 2 .claim 101) = some ⟨1, .claim, 101, 4000, 25, 2⟩ ∧ (101 : Word) - s.clk.n = 1
      ∧ ((withPeer 1 (.mismatched .order) s).peer 1).st = .mismatched .order ∧ Kind.claim ≠ .hello
      ∧ (s.peer 1).st = .live ∧ (98 : Word) - s.clk.n ≠ 65535 ∧ (98 : Word) - s.clk.n ≠ 0
      ∧ (98 : Word) - s.clk.n ≠ 1 ∧ (s.peer 1).skew + 1 ≠ 8
      ∧ ((s.putPeer 1 { s.peer 1 with skew := 7 }).peer 1).skew + 1 = 8
      ∧ ({ s.ctl with mode := .fault } : Control).mode = .fault := by decide

theorem witness_LineWatcher :
    (∀ w ∈ [Watcher.ready, .waiting, .stopped, .assembling],
      ({ runAt cfg 7 with line := ⟨[], none, 0, w, 0⟩ } : State).line.watcher = w)
      ∧ (runAt cfg 7).inRun = true ∧ (standby cfg).inRun = false ∧ (runAt cfg 7).line.sending = none
      ∧ 12 < (runAt cfg 7).line.quiet + 13 ∧ (runAt cfg 7).line.quiet + 12 ≤ 12 := by decide

theorem witness_FrameNotTaken :
    (standby cfg).inRun = false ∧ (runAt cfg 7).inRun = true ∧ (0 : BitVec 4).toNat = 0
      ∧ 9 ≤ (9 : BitVec 4).toNat ∧ 9 ≤ (15 : BitVec 4).toNat
      ∧ (3 : BitVec 4) = senderCode 2 ∧ (runAt cfg 7).cfg.number = stationNum 2
      ∧ (runAt cfg 7).hears 1 ∧ (2 : BitVec 4) = senderCode 1
      ∧ ((withPeer 1 (.mismatched .skew) (runAt cfg 7)).peer 1).st = .mismatched .skew := by decide

theorem witness_HelloOutcome :
    (∀ st ∈ [PeerState.absent, .live, .parked 0, .withdrawn, .mismatched .skew],
      (withPeer 1 st (runAt cfg 7)).hears 1 ∧ ((withPeer 1 st (runAt cfg 7)).peer 1).st = st)
      ∧ (let f := helloFacts (wordOf 11 20) 0x03 0x03
        f.pitchBit = cfg.pitchBit ∧ f.edge = cfg.edge ∧ f.steam.toNat = cfg.steamLimit
          ∧ stationNum 1 < cfg.number ∧ f.entry.toNat < cfg.entryOffset)
      ∧ ¬ (helloFacts (wordOf 12 20) 0x03 0x03).entry.toNat < cfg.entryOffset
      ∧ ¬ cfg.number < stationNum 1 := by decide

theorem witness_ClaimTaken :
    (∀ st ∈ [JarState.openJar, .heldPeer 0 4020 true, .heldPeer 3 4020 true, .claimed, .inChuck (measured 0 0),
        .probeWait (measured 0 0), .done .good (.station 1) .pass none],
      let s := withPeer 1 .live (scene cfg st 9)
      s.hears 1 ∧ (s.peer 1).st = .live ∧ s.holds [] (jar st) [] ∧ (jar st).pitch = 4000 ∧ s.lacks 4001)
      ∧ stationNum 1 < stationNum 3 ∧ stationNum 0 ≤ stationNum 1 ∧ stationNum 1 < cfg.number
      ∧ (withPeer 3 .live (scene cfg .claimed 9)).hears 3 ∧ cfg.number < stationNum 3
      ∧ ((withPeer 1 (.parked 0) (scene cfg .openJar 9)).peer 1).st = .parked 0 := by decide

theorem witness_ReleaseTaken :
    let s := withPeer 1 .live (scene cfg (.heldPeer 1 4025 true) 9)
    s.hears 1 ∧ (s.peer 1).st = .live ∧ s.holds [] (jar (.heldPeer 1 4025 true)) []
      ∧ (jar (.heldPeer 1 4025 true)).heldBy 1 = true ∧ (jar .openJar).heldBy 1 = false ∧ s.lacks 4001
      ∧ ((withPeer 1 (.parked 0) s).peer 1).st = .parked 0 ∧ (standby cfg).inRun = false := by decide

theorem witness_DoneTaken :
    (∀ st ∈ [JarState.openJar, .heldPeer 0 4020 true, .claimed, .inChuck (measured 0 0),
        .probeWait (measured 0 0), .done .uncapped .gate .reject none, .done .good (.station 1) .pass none],
      let s := withPeer 1 .live (scene cfg st 9)
      s.hears 1 ∧ (s.peer 1).st = .live ∧ s.holds [] (jar st) [] ∧ (jar st).pitch = 4000 ∧ s.lacks 4001)
      ∧ (0x00 : Byte).toNat % 16 = Verdict.good.code ∧ Verdict.good ≠ .uncapped
      ∧ (0x07 : Byte).toNat % 16 = Verdict.unchecked.code ∧ 8 ≤ (0x08 : Byte).toNat % 16
      ∧ (let s := withPeer 1 .live (scene (cfgWith 1) .openJar 9)
        s.cfg.gateRole = true ∧ (0x11 : Byte).getLsbD 4 = true ∧ s.hears 1) := by decide

theorem witness_RefreshReturns :
    let s := withPeer 2 (.parked 0x54) (runAt ((cfgWith 2).set 0 5) 2040)
    (runAt (cfg.set 0 5) 2040).hears 0 ∧ (runAt (cfg.set 0 5) 2040).cfg.refresh = false
      ∧ s.hears 0 ∧ 1 ≤ s.cfg.number ∧ s.cfg.number ≤ 8 ∧ s.cfg.refresh = true ∧ (s.peer 0).st = .absent
      ∧ (s.peer 2).st = .parked 0x54 := by decide

theorem witness_SteamTaken :
    let s := withPeer 4 .live (runAt cfg 802)
    s.hears 4 ∧ (s.peer 4).st = .live ∧ (2 : Byte) ≠ 0 ∧ (s.clk.n - 801).toNat < (2 : Byte).toNat
      ∧ (s.clk.n - 803).toNat = 65535 ∧ ¬ (s.clk.n - 800).toNat < (2 : Byte).toNat
      ∧ (s.clk.n - 800).toNat ≠ 65535 ∧ (standby cfg).inRun = false := by decide

theorem witness_WithdrawTaken :
    ∀ st ∈ [PeerState.absent, .live, .parked 1, .withdrawn],
      (withPeer 1 st (runAt cfg 7)).hears 1 ∧ ((withPeer 1 st (runAt cfg 7)).peer 1).st = st := by decide

theorem witness_StartCheckFirst :
    startCheck (cfg.set 0 0) = 0 + 1 ∧ startCheck ((cfgWith 1).set 22 26) = 30 + 1 := by decide

theorem witness_StagePlanTrimmed :
    3 + cfg.flushBase + cfg.driveBase + cfg.holdBase ≤ cfg.window
      ∧ 3 + cfg.flushBase + cfg.driveBase + cfg.holdBase = Image.window (cfg.set 5 8) := by decide

theorem witness_StartAttempt :
    let s := standby cfg
    let pins (headFault jam : Bool) : Pins := { s.pins with headFault := headFault, jam := jam }
    s.ctl.mode = .standby ∧ s.pins.headFault = false ∧ s.pins.jam = false ∧ startCheck s.ctl.image = 0
      ∧ (pins true false).headFault = true ∧ (pins false true).jam = true
      ∧ startCheck (standby (cfg.set 0 9)).ctl.image ≠ 0 ∧ (runAt cfg 0).ctl.mode ≠ .standby := by decide

theorem witness_RunStopPurges : (runAt cfg 0).inRun = true ∧ (standby cfg).inRun = false := by decide

theorem witness_HeadInputs :
    (∀ chuck ∈ [Chuck.engage, .hold, .lift],
      let s := cycle cfg (measured 0 0) chuck 14
      s.ctl.mode = .run ∧ s.holds [] (jar (.inChuck (measured 0 0))) [] ∧ s.head.cyclePitch = some 4000
        ∧ s.head.chuck = chuck)
      ∧ (runAt cfg 0).head.chuck = .ready
      ∧ ({ Head.idle (planOf cfg) with chuck := .lift } : Head).cyclePitch = none
      ∧ (standby cfg).ctl.mode ≠ .run := by decide

theorem witness_AutoloadStores :
    ∀ b ∈ [0, 2, 3, 4, 8],
      let s : State := { State.reset with ctl := { State.reset.ctl with loadBlock := b } }
      s.ctl.mode = .loading ∧ s.ctl.loadBlock = b ∧ s.verdicts.part = 0 ∧ s.verdicts.stagedTarget = none
        ∧ s.verdicts.stagedAmin = none := by decide

theorem witness_AutoloadEnds :
    State.reset.ctl.mode = .loading ∧ State.reset.ctl.loadBlock = 0
      ∧ 0 < ({ State.reset.ctl with loadBlock := 1 } : Control).loadBlock ∧ (runAt cfg 0).ctl.mode ≠ .loading := by
  decide

theorem witness_ServiceUnaddressed :
    ¬ (runAt cfg 0).addressed 0x39 ∧ ¬ (runAt cfg 0).addressed 0x3B ∧ ¬ State.reset.addressed 0x3A := by decide

theorem witness_ItemWrites :
    let s (item : Byte) : State := after (.itemNumberWrite 0x3A item) (standby cfg)
    (standby cfg).addressed 0x3A ∧ (standby cfg).port.writing = false
      ∧ (∀ item ∈ [(0x10 : Byte), 0x30, 0x0F, 0x31, 0x37, 0x3A, 0x3F, 0x41, 0xBF, 0xC1, 0xC2,
          0xC3, 0xC5, 0xC7, 0xFF, 0x38, 0x39, 0x40, 0xC0, 0xC4, 0xC6],
        (s item).port.writing = true ∧ (s item).port.pointer = item)
      ∧ (s 0x40).addressed 0x3A ∧ (0x30 : Byte).toNat = 0x10 + (32 : Fin 33).val ∧ (s 0x10).ctl.mode = .standby
      ∧ (runAt cfg 0).ctl.mode ≠ .standby := by decide

theorem witness_TorqueTableWrites :
    (standby cfg).addressed 0x3A ∧ (standby cfg).ctl.mode = .standby ∧ (runAt cfg 0).ctl.mode ≠ .standby
      ∧ (runAt cfg 0).addressed 0x3A
      ∧ (∀ p ∈ [(0 : Fin 3), 1, 2], ({ (standby cfg).verdicts with part := p } : VerdictUnit).part = p) := by decide

theorem witness_TorqueTableRead :
    (runAt cfg 0).addressed 0x3A
      ∧ (∀ p ∈ [(0 : Fin 3), 1, 2], ({ (runAt cfg 0).verdicts with part := p } : VerdictUnit).part = p) := by decide

theorem witness_HighByteLatches :
    ∀ i ∈ [(0 : Fin 30), 29],
      let s : State :=
        { runAt cfg 0 with port := { State.reset.port with pointer := BitVec.ofNat 8 (0x80 + 2 * i.val) } }
      let t := after (.highByteRead 0x3A) s
      let u : State := (t.count i)
      s.addressed 0x3A ∧ s.port.pointer.toNat = 0x80 + 2 * i.val ∧ u.addressed 0x3A
        ∧ u.port.pointer = t.port.pointer ∧ u.port.latch = t.port.latch
        ∧ ({ t.port with latch := none } : Port).latch = none := by decide

theorem witness_HighByteLatches_pitch :
    let s : State := { runAt cfg 255 with port := { State.reset.port with pointer := 4 } }
    let t := after (.highByteRead 0x3A) s
    let u := after (.pitchStrobe dark) t
    s.addressed 0x3A ∧ s.port.pointer = 4 ∧ u.addressed 0x3A ∧ u.port.pointer = t.port.pointer
      ∧ u.port.latch = t.port.latch ∧ u.clk.n = 256 := by decide

theorem witness_ItemsRead :
    ∀ item ∈ [(0 : Byte), 3, 0x10, 0x30, 0x38, 0x3A, 0x3F, 6, 0x0F, 0x31, 0x37, 0x40, 0x41, 0x7F, 0xBC, 0xBF,
        0xC0, 0xC6, 0xC8, 0xFF],
      let s : State := { runAt cfg 0 with port := { State.reset.port with pointer := item } }
      s.addressed 0x3A ∧ s.ctl.startRefused ≤ 31 ∧ s.port.pointer = item := by decide

/-- A read of E, of L and of an unnumbered item (R164, R175). -/
theorem test_items_read :
    let read (item : Byte) : Byte :=
      (after (.highByteRead 0x3A)
        { runAt cfg 0 with port := { State.reset.port with pointer := item } }).port.dataOut
    read 0x14 = 12 ∧ read 0x3E = 10 ∧ read 0x0F = 0 := by decide

theorem witness_ClearAndReload :
    (standby cfg).addressed 0x3A ∧ (standby cfg).ctl.mode ≠ .fault ∧ (standby cfg).ctl.mode = .standby
      ∧ (let s := after (.startAttempt true) { standby cfg with pins := { State.reset.pins with headFault := true } }
        s.addressed 0x3A ∧ s.ctl.mode = .fault ∧ s.ctl.mode ≠ .standby) := by decide

theorem witness_ViewRequests :
    (runAt (cfgWith 1) 0).addressed 0x3A ∧ (runAt (cfgWith 1) 0).ctl.mode ≠ .fault
      ∧ (1 : Byte).toNat = stationNum 0 ∧ (8 : Byte).toNat = stationNum 7 ∧ (0 : Byte).toNat = 0
      ∧ 9 ≤ (9 : Byte).toNat ∧ (cfgWith 1).gateRole = true ∧ cfg.gateRole = false
      ∧ (let s := after (.startAttempt true) { standby cfg with pins := { State.reset.pins with headFault := true } }
        s.addressed 0x3A ∧ s.ctl.mode = .fault) := by decide

theorem witness_ViewDataRead : (runAt cfg 0).addressed 0x3A := by decide

theorem witness_CountersOnlyRise :
    ∃ t : State, exec (.pitchStrobe { dark with eye := true }) (runAt cfg 0) = .next t := ⟨_, rfl⟩

theorem witness_StatesMoveSettingsStand :
    (∃ t : State, exec (.pitchStrobe dark) (runAt cfg 0) = .next t ∧ (runAt cfg 0).inRun = true ∧ t.inRun = true)
      ∧ (∃ t : State, exec (.startAttempt true) (standby cfg) = .next t ∧ t.ctl.mode = .run)
      ∧ (∃ t : State, exec (.headFaultJam .jam true) (runAt cfg 0) = .next t ∧ t.ctl.mode = .withdrawn)
      ∧ (∃ t : State, exec (.autoloadBlock true (Vector.replicate 9 0)) State.reset = .next t
          ∧ State.reset.ctl.mode = .loading)
      ∧ (∃ s t : State, exec (.resetPin ⟨true, 0⟩ ⟨false, false⟩) s = .next t ∧ s.ctl.mode = .fault) :=
  ⟨⟨_, rfl, by decide, by decide⟩, ⟨_, rfl, by decide⟩, ⟨_, rfl, by decide⟩, ⟨_, rfl, by decide⟩,
    ⟨(runAt cfg 0).enterFault .duplicateId, _, rfl, by decide⟩⟩

theorem witness_VerdictStands :
    let st : JarState := .done .lowVac (.station 1) .reject none
    let s := withPeer 3 .live (scene cfg st 13)
    s.TrackLaw ∧ jar st ∈ s.track ∧ (jar st).isDone = true
      ∧ (after (.doneTaken 4 4000 0 0) s).track.map Jar.pitch = [4000] := by decide

theorem witness_StandingLawsKept :
    let s : State := { cycle cfg (measured 0 0) .flush 15 with pending := [.runStop] }
    s.LineLaw ∧ s.IdleLaw ∧ s.ProfileLaw ∧ s.DrawLaw ∧ ∃ t : State, step s = .next t :=
  ⟨by decide, by decide, by decide, by decide, _, rfl⟩

/-- The down step of R4's sequence at H - C = 6 of an allowance of 6, the last one that the allowance bears. -/
theorem witness_AllowanceLawKept :
    let s : State :=
      { runAt (cfg.set 3 6) 3 with
        clk := ⟨⟨false, false⟩, 35, 40, 3⟩, pending := [.encoderStep ⟨false, true⟩ dark] }
    s.AllowanceLaw ∧ ∃ t : State, step s = .next t ∧ (t.clk.h - t.clk.c).toNat = 6 := by
  exact ⟨by decide, _, rfl, by decide⟩

theorem witness_HeldLawKept :
    let s : State := { withPeer 1 .live (scene cfg (.heldPeer 1 4025 true) 13) with pending := [.withdrawTaken 2 1] }
    s.HeldLaw ∧ ∃ t : State, step s = .next t := ⟨by decide, _, rfl⟩

theorem witness_ParkLawKept :
    let s : State :=
      { ({ scene cfg (.heldPeer 1 4025 true) 25 with clk := ⟨⟨false, false⟩, 0, 0, 4025⟩ } : State).putPeer 1
          ⟨.live, none, 1, 0, none⟩ with pending := [.lapse 4000] }
    s.ConfigLaw ∧ s.ParkLaw ∧ ∃ t : State, step s = .next t := ⟨by decide, by decide, _, rfl⟩

theorem witness_TrackLawKept :
    let s : State := { scene cfg .openJar 25 with pending := [.pitchStrobe { dark with eye := true }] }
    s.ConfigLaw ∧ s.TrackLaw ∧ ∃ t : State, step s = .next t := ⟨by decide, by decide, _, rfl⟩

theorem witness_ClaimLawKept :
    let s : State := { scene cfg .claimed 12 with claims := ⟨1, 0⟩, pending := [.pitchStrobe dark] }
    s.ConfigLaw ∧ s.TrackLaw ∧ s.ClaimLaw ∧ ∃ t : State, step s = .next t :=
  ⟨by decide, by decide, by decide, _, rfl⟩

theorem witness_CycleLawKept :
    let s : State := { cycle cfg (measured 118 83) .lift 22 with pending := [.pitchStrobe dark] }
    s.CycleLaw ∧ ∃ t : State, step s = .next t := ⟨by decide, _, rfl⟩

theorem witness_GateLawKept :
    let s : State := { fullGate with pending := [.pitchStrobe dark] }
    s.ConfigLaw ∧ s.TrackLaw ∧ s.GateLaw ∧ ∃ t : State, step s = .next t :=
  ⟨by decide, by decide, by decide, _, rfl⟩

end Sys2Proof.Tests
end

