-- ==== Sys2Proof/Proofs/DriveSamples.lean ====
section
/-! PROOF. The torque samples and angle steps of the drive that R115 does not handle (R114, R116, R117). -/

namespace Sys2Proof.Machine

variable (s : State)

/-! ### The two commands, in RUN and outside it -/

theorem exec_torqueSample_run (tau : Byte) (h : s.ctl.mode = .run) :
    exec (.torqueSample tau) s = .next (s.takeSample tau) := by
  simp [exec, execTorqueSample, h]

theorem exec_torqueSample_outside_run (tau : Byte) (h : s.ctl.mode ≠ .run) :
    exec (.torqueSample tau) s = .next s := by
  simp [exec, execTorqueSample, h]

theorem exec_angleStep_run (h : s.ctl.mode = .run) : exec .angleStep s = .next s.takeAngle := by
  simp [exec, execAngleStep, h]

theorem exec_angleStep_outside_run (h : s.ctl.mode ≠ .run) : exec .angleStep s = .next s := by
  simp [exec, execAngleStep, h]

/-! ### New measurements of the record in the chuck -/

/-- New measurements are written into the record in its place. -/
theorem State.putJar_inChuck {pre post : List Jar} {j : Jar} {m : Measurements} (h : s.holds pre j post) :
    s.putJar { j with st := .inChuck m }
      = { s with track := pre ++ { j with st := .inChuck m } :: post } :=
  s.putJar_holds { j with st := .inChuck m } h rfl

/-! ### A torque sample past the drive (R114, R117) -/

/-- The stages in which a torque sample raises the peak alone: the rest of DRIVE, and HOLD (R114). -/
abbrev State.pastDrive : Prop :=
  (s.head.chuck = .drive ∧ s.head.phase = .ended) ∨ s.head.chuck = .hold

/-- Past the drive a sample writes the larger peak into the record in the chuck. -/
theorem State.takeSample_pastDrive {j : Jar} {m : Measurements} (tau : Byte)
    (hj : s.chuckJar? = some (j, m)) (h : s.pastDrive) :
    s.takeSample tau = s.putJar { j with st := .inChuck { m with peak := byteMax m.peak tau } } := by
  unfold State.takeSample
  rw [hj]
  rcases h with ⟨hdrive, hended⟩ | hhold
  · rw [hdrive, hended]
  · rw [hhold]

/-- Outside DRIVE and HOLD no sample is taken, whether or not a record stands in the chuck. -/
theorem State.takeSample_outside_drive_hold (tau : Byte) (hd : s.head.chuck ≠ .drive)
    (hh : s.head.chuck ≠ .hold) : s.takeSample tau = s := by
  unfold State.takeSample
  cases s.chuckJar? with
  | none => rfl
  | some r =>
    cases hc : s.head.chuck with
    | drive => exact absurd hc hd
    | hold => exact absurd hc hh
    | _ => rfl

/-! ### An angle step (R116) -/

/-- In a RUNNING drive past the seat a step writes the next angle into the record in the chuck. -/
theorem State.takeAngle_seated {j : Jar} {m : Measurements} (hj : s.chuckJar? = some (j, m))
    (hc : s.head.chuck = .drive) (hp : s.head.phase = .running) (hs : s.head.seatReached = true) :
    s.takeAngle = s.putJar { j with st := .inChuck { m with theta := byteOf (countTo 255 m.theta.toNat) } } := by
  unfold State.takeAngle
  rw [hj]
  exact if_pos ⟨hc, hp, hs⟩

/-- Before the seat, or with the drive ended, a step is ignored. -/
theorem State.takeAngle_ignored (h : s.head.seatReached = false ∨ s.head.phase ≠ .running) :
    s.takeAngle = s := by
  have htest : ¬ (s.head.chuck = .drive ∧ s.head.phase = .running ∧ s.head.seatReached = true) := by
    rintro ⟨-, hp, hs⟩
    rcases h with hseat | hphase
    · simp [hseat] at hs
    · exact hphase hp
  unfold State.takeAngle
  cases s.chuckJar? with
  | none => rfl
  | some r => exact if_neg htest

/-! ### What the commands do to the whole station -/

/-- A sample past the drive, on a record that stands alone under the cycle pitch: the record in its place. -/
theorem exec_torqueSample_pastDrive {pre post : List Jar} {j : Jar} {m : Measurements} (tau : Byte)
    (hm : s.ctl.mode = .run) (hh : s.holds pre j post) (hc : s.head.cyclePitch = some j.pitch)
    (hj : j.st = .inChuck m) (h : s.pastDrive) :
    exec (.torqueSample tau) s
      = .next { s with track := pre ++ { j with
          st := .inChuck { m with peak := byteMax m.peak tau } } :: post } := by
  rw [exec_torqueSample_run s tau hm,
    s.takeSample_pastDrive tau (s.chuckJar_holds hh hc hj) h, s.putJar_inChuck hh]

/-- An angle step that counts, on a record that stands alone under the cycle pitch: the record in its place. -/
theorem exec_angleStep_seated {pre post : List Jar} {j : Jar} {m : Measurements}
    (hm : s.ctl.mode = .run) (hh : s.holds pre j post) (hc : s.head.cyclePitch = some j.pitch)
    (hj : j.st = .inChuck m) (hd : s.head.chuck = .drive) (hp : s.head.phase = .running)
    (hs : s.head.seatReached = true) :
    exec .angleStep s
      = .next { s with track := pre ++ { j with
          st := .inChuck { m with theta := byteOf (countTo 255 m.theta.toNat) } } :: post } := by
  rw [exec_angleStep_run s hm,
    s.takeAngle_seated (s.chuckJar_holds hh hc hj) hd hp hs, s.putJar_inChuck hh]

/-- An angle step before the seat, with the drive ended, or outside RUN changes nothing. -/
theorem exec_angleStep_ignored
    (h : s.head.seatReached = false ∨ s.head.phase ≠ .running ∨ s.ctl.mode ≠ .run) :
    exec .angleStep s = .next s := by
  by_cases hm : s.ctl.mode = .run
  · have hdrive : s.head.seatReached = false ∨ s.head.phase ≠ .running :=
      h.imp_right (fun h' => h'.resolve_right (not_not_intro hm))
    rw [exec_angleStep_run s hm, s.takeAngle_ignored hdrive]
  · exact exec_angleStep_outside_run s hm

/-- A sample outside DRIVE and HOLD changes nothing, in RUN or outside it. -/
theorem exec_torqueSample_outside_drive_hold (tau : Byte) (hd : s.head.chuck ≠ .drive)
    (hh : s.head.chuck ≠ .hold) : exec (.torqueSample tau) s = .next s := by
  by_cases hm : s.ctl.mode = .run
  · rw [exec_torqueSample_run s tau hm, s.takeSample_outside_drive_hold tau hd hh]
  · exact exec_torqueSample_outside_run s tau hm

end Sys2Proof.Machine

namespace Sys2Proof.Proofs

open Sys2Proof.Machine

/-- Settles O16: which of the two commands acts is decided by the station state and the stage (R114, R116),
and where it acts the record in the chuck is written in its place. -/
theorem driveSamples : Obligations.DriveSamples := by
  unfold Obligations.DriveSamples
  refine ⟨fun s pre post j m tau => ⟨?_, ?_, ?_⟩, fun s pre post j m => ⟨?_, ?_⟩⟩
  · exact exec_torqueSample_pastDrive s tau
  · exact exec_torqueSample_outside_drive_hold s tau
  · exact exec_torqueSample_outside_run s tau
  · exact exec_angleStep_seated s
  · exact exec_angleStep_ignored s

end Sys2Proof.Proofs
end

