-- ==== Sys2Proof/Proofs/StartCheckFirst.lean ====
section
/-! PROOF. The START check answers the first of its checks that fails (R168). -/

namespace Sys2Proof.Machine

/-! ### The place of the first failing check -/

@[simp] theorem firstFailing_false_cons (l : List Bool) : firstFailing (false :: l) = 1 := rfl

/-- A check that passes is never itself the one reported. -/
theorem firstFailing_true_cons_ne_one (l : List Bool) : firstFailing (true :: l) ≠ 1 := by
  simp only [firstFailing]
  cases firstFailing l <;> simp

/-- A check that passes moves the place of a failing one behind it up by one. -/
@[simp] theorem firstFailing_true_cons_eq_succ_iff (l : List Bool) (n : Nat) :
    firstFailing (true :: l) = n + 2 ↔ firstFailing l = n + 1 := by
  simp only [firstFailing]
  cases firstFailing l <;> simp

/-- With `b` at place `n`, that place is the one reported exactly when `b` is the first false entry. -/
theorem firstFailing_eq_succ_iff {l : List Bool} {n : Nat} {b : Bool} (hb : l[n]? = some b) :
    firstFailing l = n + 1 ↔ b = false ∧ ∀ c ∈ l.take n, c = true := by
  induction l generalizing n with
  | nil => simp at hb
  | cons head rest ih =>
    cases n with
    | zero =>
      obtain rfl : head = b := by simpa using hb
      cases head with
      | false => simp
      | true => simp [firstFailing_true_cons_ne_one]
    | succ n =>
      have hrest : rest[n]? = some b := by simpa using hb
      cases head with
      | false => simp
      | true => simpa using ih hrest

/-! ### Lists of propositions judged by lists of tests -/

/-- No place is reported exactly when every proposition holds that the tests stand for. -/
theorem firstFailing_eq_zero_iff_props {tests : List Bool} {props : List Prop}
    (h : tests.map (· = true) = props) : firstFailing tests = 0 ↔ ∀ p ∈ props, p := by
  subst h
  rw [List.forall_mem_map]
  exact firstFailing_zero tests

/-- Place `n` is reported exactly when the proposition there is the first that fails. -/
theorem firstFailing_eq_succ_iff_props {tests : List Bool} {props : List Prop}
    (h : tests.map (· = true) = props) {n : Nat} {p : Prop} (hp : props[n]? = some p) :
    firstFailing tests = n + 1 ↔ ¬ p ∧ ∀ q ∈ props.take n, q := by
  subst h
  rw [List.getElem?_map, Option.map_eq_some_iff] at hp
  obtain ⟨b, hb, rfl⟩ := hp
  rw [← List.map_take, List.forall_mem_map, Bool.not_eq_true]
  exact firstFailing_eq_succ_iff hb

/-! ### The tests of the START check -/

/-- A test made with gate role alone says that its range holds when gate role is set. -/
theorem gateTest_eq (gate : Bool) (range : Prop) [Decidable range] :
    ((!gate || decide range) = true) = (gate = true → range) := by
  cases gate <;> simp

theorem startCheck_le (i : Image) : startCheck i ≤ 31 := firstFailing_le (startChecks i)

end Sys2Proof.Machine

namespace Sys2Proof.Proofs

open Sys2Proof.Machine

/-- Settles O33: the tests of the START check stand for the 31 checks of the table (R168), one for one, and
the place of the first test that fails is what the check reports. -/
theorem startCheckFirst : Obligations.StartCheckFirst := by
  unfold Obligations.StartCheckFirst
  intro i checks
  have htests : (startChecks i).map (· = true) = checks := by
    simp only [startChecks, List.map_cons, List.map_nil, decide_eq_true_eq, gateTest_eq]
    rfl
  exact ⟨firstFailing_eq_zero_iff_props htests,
    fun _ _ hp => firstFailing_eq_succ_iff_props htests hp, startCheck_le i⟩

end Sys2Proof.Proofs
end


section
/-! PROOF. The work of a run as a chain of small edits: what one edit may change is said once, every block's
operation is shown to be a chain of edits, and the laws of the run are then read off the edits. -/

namespace Sys2Proof.Machine

/-! ### Facts of records and of the chuck that the operations rest on -/

theorem Jar.heldBy_iff {j : Jar} {k : Station} :
    j.heldBy k = true ↔ ∃ (q : Word) (ahead : Bool), j.st = .heldPeer k q ahead := by
  unfold Jar.heldBy
  split <;> simp_all

/-- What no action of a run takes from a record: its place, temperature and band, a verdict once set, and the
reopened and conflict flags (R18, R22, R23, R150). -/
structure Jar.Follows (j j' : Jar) : Prop where
  pitch : j'.pitch = j.pitch
  temp : j'.temp = j.temp
  band : j'.band = j.band
  verdict : j.isDone = true → j'.st = j.st
  reopened : j.reopened = true → j'.reopened = true
  conflict : j.conflict = true → j'.conflict = true

theorem Jar.Follows.refl (j : Jar) : j.Follows j := ⟨rfl, rfl, rfl, fun _ => rfl, id, id⟩

theorem Jar.Follows.trans {a b c : Jar} (h : a.Follows b) (h' : b.Follows c) : a.Follows c where
  pitch := h'.pitch.trans h.pitch
  temp := h'.temp.trans h.temp
  band := h'.band.trans h.band
  verdict hd := by
    have hb : b.st = a.st := h.verdict hd
    have hbd : b.isDone = true := by simpa [Jar.isDone, hb] using hd
    exact (h'.verdict hbd).trans hb
  reopened := h'.reopened ∘ h.reopened
  conflict := h'.conflict ∘ h.conflict

/-- One record edited in a station: it follows what it was, and it is newly held only for a LIVE peer (R62). -/
structure State.JarEdit (s : State) (j j' : Jar) : Prop extends Jar.Follows j j' where
  held : ∀ k : Station, j'.heldBy k = true → j.heldBy k = true ∨ (s.peer k).isLive = true

/-- A peer's record edited: it stays LIVE unless no record is held for it, and its lapse count stays fit under
a park limit of 1 or more (R62, R76). -/
structure State.PeerEdit (s : State) (k : Station) (p : Peer) : Prop where
  live : (s.peer k).isLive = true → p.isLive = true ∨ ∀ j ∈ s.track, j.heldBy k = false
  lapses : 1 ≤ s.cfg.parkLimit → (s.peer k).lapsesOk s.cfg.parkLimit = true →
    p.lapsesOk s.cfg.parkLimit = true

/-- One edit of a run at a standing pitch. With `heard` it may also be what a frame of the line brings: a
change of the send side or the watcher, and the gate flags of the peer table. -/
inductive Edit (heard : Bool) (s : State) : State → Prop where
  | count (i : Fin 30) (k : Nat) : Edit heard s (s.countBy i k)
  | track (f : Jar → Jar)
      (h : ∀ x ∈ s.track, (f x).pitch = x.pitch ∧ ∃ j ∈ s.track, s.JarEdit j (f x)) :
      Edit heard s { s with track := s.track.map f }
  | peers (r : Vector Peer 8) (h : ∀ k : Station, s.PeerEdit k (r.get k)) :
      Edit heard s { s with peers := { s.peers with recs := r } }
  | flags (hh : heard = true) (a b : Bool) :
      Edit heard s { s with peers := { s.peers with gateConflict := a, gateShort := b } }
  | line (l : BankLine) (hq : s.line.queue.length ≤ 8 → l.queue.length ≤ 8)
      (hs : heard = false → l.sending = s.line.sending ∧ l.watcher = s.line.watcher) :
      Edit heard s { s with line := l }
  | own (c : ClaimCounts) (h : Head) (hp : h.plan = s.head.plan) :
      Edit heard s { s with claims := c, head := h }
  | steam (x : SteamShare) (h : (s.steam.draws.map Draw.station).Nodup → (x.draws.map Draw.station).Nodup) :
      Edit heard s { s with steam := x }
  | gate (j : Jar) (v : Verdict) (hj : ∃ x ∈ s.track, x.pitch = j.pitch) (hg : s.cfg.gateRole = true) :
      Edit heard s (s.gateInsert j.pitch v)

/-- A chain of edits. -/
def Edits (heard : Bool) (s t : State) : Prop := Relation.ReflTransGen (Edit heard) s t

/-- A record whose new state is neither held nor forgets a verdict is an edit. -/
theorem State.JarEdit.of_state {s : State} {j j' : Jar} (hd : j.isDone = false)
    (hh : ∀ k : Station, j'.heldBy k = false) (hp : j'.pitch = j.pitch) (ht : j'.temp = j.temp)
    (hb : j'.band = j.band) (hr : j.reopened = true → j'.reopened = true)
    (hc : j.conflict = true → j'.conflict = true) : s.JarEdit j j' where
  pitch := hp
  temp := ht
  band := hb
  verdict h := by simp [hd] at h
  reopened := hr
  conflict := hc
  held k h := by simp [hh k] at h

/-- A record that keeps its state and its flags is an edit. -/
theorem State.JarEdit.of_same_state {s : State} {j j' : Jar} (hs : j'.st = j.st) (hp : j'.pitch = j.pitch)
    (ht : j'.temp = j.temp) (hb : j'.band = j.band) (hr : j.reopened = true → j'.reopened = true)
    (hc : j.conflict = true → j'.conflict = true) : s.JarEdit j j' where
  pitch := hp
  temp := ht
  band := hb
  verdict _ := hs
  reopened := hr
  conflict := hc
  held k h := .inl (by simpa [Jar.heldBy, hs] using h)

variable (s : State)

theorem State.mem_putJar {j k : Jar} (hj : j ∈ s.track) (hp : k.pitch = j.pitch) : k ∈ (s.putJar k).track :=
  s.mem_updJar.mpr ⟨j, hj, by simp [hp]⟩

/-- What stands behind the record in the chuck: a record of the track, IN_CHUCK, of the cycle pitch. -/
theorem State.chuckJar_some {j : Jar} {m : Measurements} (h : s.chuckJar? = some (j, m)) :
    j ∈ s.track ∧ j.st = .inChuck m ∧ s.head.cyclePitch = some j.pitch := by
  unfold State.chuckJar? at h
  split at h
  · simp at h
  · rename_i p hp
    split at h
    · simp at h
    · rename_i x hx
      split at h
      · rename_i m' hm
        obtain ⟨rfl, rfl⟩ : x = j ∧ m' = m := by simpa using h
        obtain ⟨hmem, hpx⟩ := s.findJar_some hx
        exact ⟨hmem, hm, by rw [hp, hpx]⟩
      · simp at h

/-! ### The shared operations as edits -/

namespace Edits

variable {b : Bool} {r s t : State}

theorem refl : Edits b s s := Relation.ReflTransGen.refl

theorem trans (h : Edits b r s) (h' : Edits b s t) : Edits b r t := Relation.ReflTransGen.trans h h'

theorem then_ (h : Edits b r s) (h' : Edit b s t) : Edits b r t := Relation.ReflTransGen.tail h h'

/-! Each lemma below carries a chain over one more operation. -/

/-- Whichever of two chains a test picks. -/
theorem ite {c : Prop} [Decidable c] (h : Edits b r s) (h' : Edits b r t) :
    Edits b r (if c then s else t) := by
  split
  · exact h
  · exact h'

theorem countBy (h : Edits b r s) (i : Fin 30) (k : Nat) : Edits b r (s.countBy i k) := h.then_ (.count i k)

theorem count (h : Edits b r s) (i : Fin 30) : Edits b r (s.count i) := h.countBy i 1

/-- The claim counts and the head's own values may change at will, under a standing plan. -/
theorem own (h : Edits b r s) (c : ClaimCounts) (x : Head) (hp : x.plan = s.head.plan) :
    Edits b r { s with claims := c, head := x } :=
  h.then_ (.own c x hp)

theorem claims (h : Edits b r s) (c : ClaimCounts) : Edits b r { s with claims := c } := h.own c s.head rfl

theorem head (h : Edits b r s) (x : Head) (hp : x.plan = s.head.plan) : Edits b r { s with head := x } :=
  h.own s.claims x hp

theorem enqueue (h : Edits b r s) (f : TxFrame) : Edits b r (s.enqueue f) := by
  by_cases hl : s.line.queue.length < 8
  · rw [s.enqueue_room f hl]
    exact h.then_ (.line _ (fun _ => by simp; omega) (fun _ => ⟨rfl, rfl⟩))
  · rw [s.enqueue_full f (by omega)]
    exact h.count _

/-- A change of the records of one pitch, where each new record is an edit of one that stood there. -/
theorem updJar (h : Edits b r s) {p : Word} {f : Jar → Jar}
    (hf : ∀ x ∈ s.track, x.pitch = p → (f x).pitch = p ∧ ∃ j ∈ s.track, s.JarEdit j (f x)) :
    Edits b r (s.updJar p f) := by
  refine h.then_ (.track _ fun x hx => ?_)
  by_cases hp : x.pitch = p
  · obtain ⟨hf, j, hj, he⟩ := hf x hx hp
    simpa [hp] using ⟨hf, j, hj, he⟩
  · simpa [hp] using ⟨x, hx, Jar.Follows.refl x, fun _ h => .inl h⟩

/-- A record put in the place of one of the track that it edits. -/
theorem putJar (h : Edits b r s) {j k : Jar} (hj : j ∈ s.track) (he : s.JarEdit j k) :
    Edits b r (s.putJar k) :=
  h.updJar fun _ _ _ => ⟨rfl, j, hj, he⟩

theorem countOwnVerdict (h : Edits b r s) (v : Verdict) : Edits b r (s.countOwnVerdict v) := by
  unfold State.countOwnVerdict
  split
  · exact h.count _
  · exact h

theorem gateInsert (h : Edits b r s) {p : Word} (v : Verdict) (hp : ∃ x ∈ s.track, x.pitch = p)
    (hg : s.cfg.gateRole = true) : Edits b r (s.gateInsert p v) := by
  obtain ⟨x, hx, rfl⟩ := hp
  exact h.then_ (.gate x v ⟨x, hx, rfl⟩ hg)

theorem handToGate (h : Edits b r s) {p : Word} (v : Verdict) (disp : Disposition)
    (hp : ∃ x ∈ s.track, x.pitch = p) : Edits b r (s.handToGate p v disp) := by
  unfold State.handToGate
  split
  · split
    · exact h.gateInsert v hp ‹_›
    · exact h
  · exact h

/-- An own verdict on a record of the track that bears none, given as it now reads. -/
theorem setOwnVerdict (h : Edits b r s) {j k : Jar} (hj : j ∈ s.track) (he : s.JarEdit j k)
    (hd : j.isDone = false) (v : Verdict) (m : Measurements) : Edits b r (s.setOwnVerdict k v m) := by
  unfold State.setOwnVerdict
  have hput : s.JarEdit j
      { k with st := .done v (.station s.cfg.own) (dispositionOf s.cfg v k.nearFlag) (some m) } :=
    .of_state hd (fun _ => rfl) he.pitch he.temp he.band he.reopened he.conflict
  refine (((h.putJar hj hput).countOwnVerdict v).enqueue _).handToGate v _ ?_
  simpa using ⟨_, s.mem_putJar hj hput.pitch, rfl⟩

theorem setPeerVerdict (h : Edits b r s) {j : Jar} (hj : j ∈ s.track) (hd : j.isDone = false) (k : Station)
    (v : Verdict) (disp : Disposition) (a : Byte) : Edits b r (s.setPeerVerdict j k v disp a) := by
  unfold State.setPeerVerdict
  have hput : s.JarEdit j
      { j with st := .done v (.station k) disp none, nearFlag := a.getLsbD 5, overFlag := a.getLsbD 6 } :=
    .of_state hd (fun _ => rfl) rfl rfl rfl id id
  exact (h.putJar hj hput).handToGate v _ ⟨_, s.mem_putJar hj hput.pitch, rfl⟩

theorem giveBack (h : Edits b r s) {j : Jar} (hj : j ∈ s.track) (hd : j.isDone = false) :
    Edits b r (s.giveBack j) := by
  unfold State.giveBack
  have hput : s.JarEdit j { j.discard with reopened := true } :=
    .of_state hd (fun _ => rfl) rfl rfl rfl (fun _ => rfl) id
  exact (h.putJar hj hput).enqueue _

theorem toPick (h : Edits b r s) : Edits b r s.toPick := h.head _ rfl

theorem earlyLift (h : Edits b r s) : Edits b r s.earlyLift := h.head _ rfl

theorem plannedLift (h : Edits b r s) : Edits b r s.plannedLift := h.head _ rfl

end Edits

/-- A record IN_CHUCK bears no verdict. -/
theorem Jar.not_done_of_inChuck {j : Jar} {m : Measurements} (h : j.st = .inChuck m) : j.isDone = false := by
  simp [Jar.isDone, h]

/-- New measurements of a record IN_CHUCK are an edit of it. -/
theorem State.JarEdit.measured {s : State} {j : Jar} {m m' : Measurements} (hm : j.st = .inChuck m) :
    s.JarEdit j { j with st := .inChuck m' } :=
  .of_state (Jar.not_done_of_inChuck hm) (fun _ => rfl) rfl rfl rfl id id

/-- The record that ENGAGE takes: CLAIMED, at E (R108). -/
theorem State.jarToEngage_some {j : Jar} (h : s.jarToEngage? = some j) :
    j ∈ s.track ∧ j.st = .claimed ∧ s.dist j.pitch = s.cfg.entryOffset := by
  unfold State.jarToEngage? at h
  have hp := List.find?_some h
  simp only [Bool.and_eq_true, decide_eq_true_eq] at hp
  obtain ⟨hc, hd⟩ := hp
  refine ⟨List.mem_of_find?_eq_some h, ?_, hd⟩
  unfold Jar.isClaimed at hc
  split at hc <;> simp_all

/-- The record that the probe takes: in PROBE_WAIT, at E + W + Q (R121). -/
theorem State.jarAtProbe_some {j : Jar} (h : s.jarAtProbe? = some j) :
    j ∈ s.track ∧ (∃ m, j.st = .probeWait m) ∧ s.dist j.pitch = s.cfg.probeDistance := by
  unfold State.jarAtProbe? at h
  have hp := List.find?_some h
  simp only [Bool.and_eq_true, decide_eq_true_eq] at hp
  obtain ⟨hw, hd⟩ := hp
  refine ⟨List.mem_of_find?_eq_some h, ?_, hd⟩
  split at hw
  · rename_i m hm
    exact ⟨m, hm⟩
  · simp at hw

/-! ### The capping cycle as edits -/

namespace Edits

variable {b : Bool} {r s : State}

theorem noCap (h : Edits b r s) : Edits b r s.noCap := by
  unfold State.noCap
  split
  · rename_i j m hc
    obtain ⟨hj, hm, -⟩ := s.chuckJar_some hc
    exact ((h.giveBack hj (Jar.not_done_of_inChuck hm)).count _).toPick
  · exact (h.count _).toPick

theorem capCheck (h : Edits b r s) (cap : Bool) : Edits b r (s.capCheck cap) := by
  unfold State.capCheck
  exact .ite (h.head _ rfl) (.ite (h.head _ rfl) h.noCap)

theorem alreadyCapped (h : Edits b r s) {j : Jar} (hj : j ∈ s.track) (hd : j.isDone = false) :
    Edits b r (s.alreadyCapped j) := by
  unfold State.alreadyCapped
  have hput : s.JarEdit j j.discard := .of_state hd (fun _ => rfl) rfl rfl rfl id id
  exact ((h.putJar hj hput).count _).earlyLift

theorem beginCycle (h : Edits b r s) {j : Jar} (hj : j ∈ s.track) (hd : j.isDone = false) :
    Edits b r (s.beginCycle j) := by
  unfold State.beginCycle
  have hput : s.JarEdit j { j with st := .inChuck ⟨0, 0, none⟩ } :=
    .of_state hd (fun _ => rfl) rfl rfl rfl id id
  exact .count (.own (h.putJar hj hput) _ _ (by rfl)) _

theorem engageStart (h : Edits b r s) {j : Jar} (pins : StrobePins) (hj : j ∈ s.track)
    (hd : j.isDone = false) : Edits b r (s.engageStart j pins) := by
  unfold State.engageStart
  exact .ite ((h.beginCycle hj hd).alreadyCapped (s.mem_putJar hj rfl) rfl)
    ((h.beginCycle hj hd).capCheck _)

theorem engageOrFall (h : Edits b r s) (pins : StrobePins) : Edits b r (s.engageOrFall pins) := by
  unfold State.engageOrFall
  split
  · rename_i j hj
    split at hj
    · obtain ⟨hmem, hc, -⟩ := s.jarToEngage_some hj
      exact h.engageStart pins hmem (by simp [Jar.isDone, hc])
    · simp at hj
  · exact h.claims _

theorem decideFlush (h : Edits b r s) : Edits b r s.decideFlush := by
  unfold State.decideFlush
  have hdraws (full : Nat) (heard : Bool) (len : Byte) :
      Edits b r { s with steam := ⟨enterDraw ⟨s.cfg.own, s.clk.n, len⟩ s.steam.draws, full, heard⟩ } :=
    h.then_ (.steam _ (enterDraw_nodup _ _))
  exact .ite (((hdraws _ _ _).enqueue _).count _) ((hdraws _ _ _).enqueue _)

theorem flushStart (h : Edits b r s) (p : Word) : Edits b r (s.flushStart p) := by
  unfold State.flushStart
  refine (h.decideFlush.updJar ?_).head _ rfl
  exact fun x hx hp => ⟨hp, x, hx, .of_same_state rfl rfl rfl rfl id id⟩

theorem seatStart (h : Edits b r s) : Edits b r s.seatStart := h.head _ rfl

theorem valveFall (h : Edits b r s) : Edits b r s.valveFall := h.head _ rfl

theorem returnStep (h : Edits b r s) : Edits b r s.returnStep := h.head _ rfl

theorem driveStart (h : Edits b r s) : Edits b r s.driveStart := by
  have hstart : Edits b r
      { s with head := { s.head with chuck := .drive, phase := .running, seatReached := false } } :=
    h.head _ rfl
  unfold State.driveStart
  dsimp only
  split
  · rename_i j m hc
    obtain ⟨hj, hm, -⟩ := s.chuckJar_some hc
    exact hstart.putJar hj (.measured hm)
  · exact hstart

theorem endDrive (h : Edits b r s) (how : DriveEnd) : Edits b r (s.endDrive how) := by
  have hended : Edits b r { s with head := { s.head with phase := .ended } } := h.head _ rfl
  unfold State.endDrive
  dsimp only
  split
  · exact hended
  · rename_i j m hc
    obtain ⟨hj, hm, -⟩ := s.chuckJar_some hc
    split
    · exact hended
    · exact hended.putJar hj (.of_same_state rfl rfl rfl rfl id id)
    · exact (hended.setOwnVerdict hj (.of_same_state rfl rfl rfl rfl id id)
        (Jar.not_done_of_inChuck hm) _ _).earlyLift

theorem sampleRunning (h : Edits b r s) {j : Jar} {m : Measurements} (tau : Byte) (hj : j ∈ s.track)
    (hm : j.st = .inChuck m) : Edits b r (s.sampleRunning j m tau) := by
  unfold State.sampleRunning
  have hput (m' : Measurements) : Edits b r (s.putJar { j with st := .inChuck m' }) :=
    h.putJar hj (.measured hm)
  exact .ite (.endDrive (.head (hput _) _ (by rfl)) _)
    (.ite (.endDrive (.head (hput _) _ (by rfl)) _) (.head (hput _) _ (by rfl)))

theorem takeSample (h : Edits b r s) (tau : Byte) : Edits b r (s.takeSample tau) := by
  unfold State.takeSample
  split
  · exact h
  · rename_i j m hc
    obtain ⟨hj, hm, -⟩ := s.chuckJar_some hc
    split
    · exact h.sampleRunning tau hj hm
    · exact h.putJar hj (.measured hm)
    · exact h.putJar hj (.measured hm)
    · exact h

theorem takeAngle (h : Edits b r s) : Edits b r s.takeAngle := by
  unfold State.takeAngle
  split
  · exact h
  · rename_i j m hc
    obtain ⟨hj, hm, -⟩ := s.chuckJar_some hc
    exact .ite (h.putJar hj (.measured hm)) h

theorem holdEnd (h : Edits b r s) : Edits b r s.holdEnd := by
  unfold State.holdEnd
  split
  · exact h.plannedLift
  · rename_i j m hc
    obtain ⟨hj, hm, -⟩ := s.chuckJar_some hc
    exact .ite (.ite (.plannedLift (.putJar h hj (.of_same_state rfl rfl rfl rfl id id)))
      (h.setOwnVerdict hj (.of_same_state rfl rfl rfl rfl id id) (Jar.not_done_of_inChuck hm) _ _).earlyLift)
      h.plannedLift

theorem leaveDrive (h : Edits b r s) : Edits b r s.leaveDrive := by
  unfold State.leaveDrive
  exact .ite h.holdEnd (h.head _ rfl)

theorem endDriveStage (h : Edits b r s) : Edits b r s.endDriveStage := by
  have hdrive : Edits b r (if s.head.phase = .running then s.endDrive .expiry else s) :=
    .ite (h.endDrive _) h
  exact .ite hdrive.leaveDrive hdrive

theorem endLift (h : Edits b r s) : Edits b r s.endLift := by
  unfold State.endLift
  split
  · rename_i j m hc
    obtain ⟨hj, hm, -⟩ := s.chuckJar_some hc
    have hput : s.JarEdit j { j with st := .probeWait m } :=
      .of_state (Jar.not_done_of_inChuck hm) (fun _ => rfl) rfl rfl rfl id id
    exact (h.putJar hj hput).toPick
  · exact h.toPick

theorem vacateChuck (h : Edits b r s) : Edits b r s.vacateChuck := by
  unfold State.vacateChuck
  split
  · split
    · exact h.endLift
    · exact .ite h.endLift h
  · exact h.returnStep
  all_goals exact h

theorem stageWork (h : Edits b r s) (pins : StrobePins) : Edits b r (s.stageWork pins) := by
  unfold State.stageWork
  split
  · exact h
  · rename_i p _
    dsimp only
    split
    · exact .ite (.ite (h.flushStart p) h) (.ite h (h.capCheck _))
    · exact .ite h.seatStart h.valveFall
    · exact .ite h.driveStart h
    · exact .ite h.endDriveStage h
    · exact .ite h.holdEnd h
    all_goals exact h

theorem probe (h : Edits b r s) (pins : StrobePins) : Edits b r (s.probe pins) := by
  unfold State.probe
  split
  · exact h
  · rename_i j hj
    obtain ⟨hmem, ⟨m, hm⟩, -⟩ := s.jarAtProbe_some hj
    simp only [hm]
    exact h.setOwnVerdict hmem (.of_same_state rfl rfl rfl rfl id id) (by simp [Jar.isDone, hm]) _ _

theorem giveUpWorking (h : Edits b r s) : Edits b r s.giveUpWorking := by
  unfold State.giveUpWorking
  dsimp only
  split
  · rename_i j m hc
    obtain ⟨hj, hm, -⟩ := s.chuckJar_some hc
    exact (((h.giveBack hj (Jar.not_done_of_inChuck hm)).count _).head _ (by rfl)).earlyLift
  · exact ((h.count _).head _ (by rfl)).earlyLift

theorem giveUpCycle (h : Edits b r s) : Edits b r s.giveUpCycle := by
  unfold State.giveUpCycle
  split
  · exact h
  · exact h
  · split
    · rename_i j m hc
      obtain ⟨hj, hm, -⟩ := s.chuckJar_some hc
      exact ((h.giveBack hj (Jar.not_done_of_inChuck hm)).count _).earlyLift
    · exact h
  all_goals exact h.giveUpWorking

end Edits

/-! ### Facts of held, claimed and LIVE that the other blocks rest on -/

theorem State.JarEdit.reopen {s : State} {j : Jar} (hd : j.isDone = false) : s.JarEdit j j.reopen :=
  .of_state hd (fun _ => rfl) rfl rfl rfl (fun _ => rfl) id

theorem Jar.not_done_of_held {j : Jar} {k : Station} (h : j.heldBy k = true) : j.isDone = false := by
  obtain ⟨q, ahead, hst⟩ := Jar.heldBy_iff.mp h
  simp [Jar.isDone, hst]

theorem Jar.not_held_reopen (j : Jar) (k : Station) : j.reopen.heldBy k = false := rfl

theorem Peer.isLive_iff (p : Peer) : p.isLive = true ↔ p.st = .live := by
  unfold Peer.isLive
  split <;> simp_all

/-- A record that may be claimed is OPEN (R46). -/
theorem State.open_of_claimable {j : Jar} (h : claimable s j = true) : j.st = .openJar := by
  simp only [claimable, Bool.and_eq_true] at h
  obtain ⟨⟨⟨⟨⟨ho, -⟩, -⟩, -⟩, -⟩, -⟩ := h
  unfold stateTest at ho
  split at ho <;> simp_all

/-- The stale test leaves what is on the line, and the watcher, as they stand (R98, R99). -/
theorem BankLine.removeWaiting_frame (gone : TxFrame → Bool) (l : BankLine) :
    (l.removeWaiting gone).sending = l.sending ∧ (l.removeWaiting gone).watcher = l.watcher := by
  unfold BankLine.removeWaiting
  split
  · exact ⟨rfl, rfl⟩
  · split <;> exact ⟨rfl, rfl⟩

/-! ### The strobe's other blocks as edits -/

namespace Edits

variable {b : Bool} {r s : State}

theorem exitDecision (h : Edits b r s) : Edits b r s.exitDecision := by
  unfold State.exitDecision
  split
  · rename_i hg
    split
    · exact h
    · rename_i j hf
      have hj : j ∈ s.track := List.mem_of_find?_eq_some hf
      split
      · exact h
      · rename_i hd
        have hput : s.JarEdit j { j with st := .done .uncapped .gate .reject none } :=
          .of_state (by simpa using hd) (fun _ => rfl) rfl rfl rfl id id
        exact ((h.putJar hj hput).count _).gateInsert _ ⟨_, s.mem_putJar hj rfl, rfl⟩ hg
  · exact h

/-- Reopening the records that satisfy a test, none of them DONE. -/
theorem mapReopen (h : Edits b r s) (f : Jar → Bool) (hf : ∀ j ∈ s.track, f j = true → j.isDone = false) :
    Edits b r { s with track := s.track.map (fun j => if f j then j.reopen else j) } := by
  refine h.then_ (.track _ fun x hx => ?_)
  by_cases hx' : f x = true
  · simpa [hx'] using ⟨rfl, x, hx, State.JarEdit.reopen (hf x hx hx')⟩
  · simpa [hx'] using ⟨x, hx, Jar.Follows.refl x, fun _ h => .inl h⟩

theorem reopenHeldBy (h : Edits b r s) (k : Station) : Edits b r (s.reopenHeldBy k) :=
  h.mapReopen _ fun _ _ => Jar.not_done_of_held

/-- A peer's record put, with the rest of the table. -/
theorem putPeer (h : Edits b r s) {k : Station} {p : Peer} (hp : s.PeerEdit k p) :
    Edits b r (s.putPeer k p) := by
  refine h.then_ (.peers _ fun q => ?_)
  by_cases hq : k = q
  · subst hq
    rwa [vec_get_set_same]
  · rw [vec_get_set_other _ _ _ _ hq]
    exact ⟨.inl, fun _ => id⟩

/-- A peer set aside: its records are reopened first, and then none is held for it (R62). -/
theorem setAside (h : Edits b r s) {k : Station} {p : Peer}
    (hp : 1 ≤ s.cfg.parkLimit → (s.peer k).lapsesOk s.cfg.parkLimit = true →
      p.lapsesOk s.cfg.parkLimit = true) : Edits b r (s.setAside k p) := by
  have hput : Edits b r ((s.reopenHeldBy k).putPeer k p) := by
    refine (h.reopenHeldBy k).putPeer ⟨fun _ => .inr fun j hj => ?_, hp⟩
    obtain ⟨x, -, rfl⟩ := List.mem_map.mp hj
    split
    · exact x.not_held_reopen k
    · simpa using ‹¬ x.heldBy k = true›
  exact hput

theorem reportLapse (h : Edits b r s) (k : Station) : Edits b r (s.reportLapse k) := by
  by_cases hl : (s.peer k).st = .live
  · rw [s.reportLapse_live k hl]
    split
    · rename_i hpark
      exact h.setAside fun _ _ => by simpa [Peer.lapsesOk] using hpark
    · rename_i hpark
      refine h.putPeer ⟨fun _ => .inl (by simp [Peer.isLive, hl]), fun _ hk => ?_⟩
      simp only [Peer.lapsesOk, hl, decide_eq_true_eq] at hk ⊢
      omega
  · rwa [s.reportLapse_other k hl]

theorem lapseOne (h : Edits b r s) (p : Word) : Edits b r (s.lapseOne p) := by
  unfold State.lapseOne
  split
  · exact h
  · rename_i j hj
    obtain ⟨hmem, -⟩ := s.findJar_some hj
    split
    · rename_i hst
      split
      · exact ((h.putJar hmem (.reopen (by simp [Jar.isDone, hst]))).count _).reportLapse _
      · exact h
    all_goals exact h

/-- A chain of edits along a list of pitches. -/
theorem foldl {f : State → Word → State} (hf : ∀ s p, Edits b r s → Edits b r (f s p)) (l : List Word)
    (h : Edits b r s) : Edits b r (l.foldl f s) := by
  induction l generalizing s with
  | nil => exact h
  | cons p rest ih => exact ih (hf s p h)

theorem lapseChecks (h : Edits b r s) : Edits b r s.lapseChecks := foldl (fun _ p h => h.lapseOne p) _ h

theorem makeClaim (h : Edits b r s) {j : Jar} (hj : j ∈ s.track) (hd : j.isDone = false) :
    Edits b r (s.makeClaim j) := by
  unfold State.makeClaim
  have hput : s.JarEdit j { j with st := .claimed } := .of_state hd (fun _ => rfl) rfl rfl rfl id id
  exact (((h.putJar hj hput).enqueue _).claims _).count _

theorem claimOne (h : Edits b r s) (p : Word) : Edits b r (s.claimOne p) := by
  unfold State.claimOne
  split
  · rename_i j hj
    split
    · rename_i hc
      exact h.makeClaim (s.findJar_some hj).1 (by simp [Jar.isDone, s.open_of_claimable hc])
    · exact h
  · exact h

theorem claimTest (h : Edits b r s) : Edits b r s.claimTest := by
  unfold State.claimTest
  exact .ite (foldl (fun _ p h => h.claimOne p) _ h) h

theorem dropStale (h : Edits b r s) : Edits b r s.dropStale := by
  unfold State.dropStale
  exact (h.then_ (.line _ (BankLine.removeWaiting_length _ _).trans
    fun _ => BankLine.removeWaiting_frame _ _)).countBy _ _

theorem filterDraws (h : Edits b r s) (f : Draw → Bool) :
    Edits b r { s with steam := { s.steam with draws := s.steam.draws.filter f } } :=
  h.then_ (.steam _ fun hd => hd.sublist (List.Sublist.map _ List.filter_sublist))

theorem endDraws (h : Edits b r s) : Edits b r s.endDraws := h.filterDraws _

end Edits

end Sys2Proof.Machine
end


section
/-! PROOF. What a chain of edits keeps: the settings and the clock, the pitches of the track, the verdicts and
flags of its records, the holds under LIVE peers, the lapse counts, the counters, the queues. -/

namespace Sys2Proof.Machine

/-! ### The settings that the START check has passed -/

/-- What the START check leaves of the settings, by name: the ranges that the laws of a run rest on (R168). -/
structure Image.Fit (i : Image) : Prop where
  number : 1 ≤ i.number ∧ i.number ≤ 8
  entry : 1 ≤ i.entryOffset ∧ i.entryOffset ≤ 40
  lead : i.claimLead < i.entryOffset
  window : i.probeDistance ≤ 62
  commit : 1 ≤ i.commitLimit
  base : 3 + i.flushBase + i.driveBase + i.holdBase ≤ i.window
  flush : 1 ≤ i.flushBase
  drive : 1 ≤ i.driveBase
  steam : i.steamLimit ≤ 8
  park : 1 ≤ i.parkLimit
  band : 1 ≤ i.bandWidth
  exit : i.gateRole = true → i.probeDistance ≤ i.bankExit ∧ i.bankExit ≤ 62
  offset : i.gateRole = true → i.bankExit < i.gateOffset ∧ i.gateOffset ≤ 250

theorem Image.fit_of_startCheck {i : Image} (h : startCheck i = 0) : i.Fit := by
  have hall := (Proofs.startCheckFirst i).1.mp h
  simp only [List.mem_cons, List.not_mem_nil, or_false, forall_eq_or_imp, forall_eq] at hall
  obtain ⟨hnum, -, -, hentry, -, -, -, hlead, hwin, hcm, -, hfl, hdr, -, hbase, -, -, hsteam, -, hpark, -, -, hband,
    -, -, -, -, -, hexit, hprobe, hoff⟩ := hall
  exact ⟨hnum, hentry, hlead, hwin, hcm.1, hbase, hfl.1, hdr.1, hsteam.2, hpark.1, hband.1,
    fun hg => ⟨hprobe hg, (hexit hg).2⟩, hoff⟩

/-- Rd is past the probe, and at most 63 (R31). -/
theorem Image.Fit.retire {i : Image} (h : i.Fit) : i.probeDistance < i.retireDistance ∧ i.retireDistance ≤ 63 := by
  have hw := h.window
  unfold Image.retireDistance
  cases hg : i.gateRole with
  | true => have := h.exit hg; simp; omega
  | false => simp; omega

theorem State.ConfigLaw.fit {s : State} (h : s.ConfigLaw) (hr : s.inRun = true) : s.cfg.Fit :=
  Image.fit_of_startCheck (h hr).1

/-! ### Reading a law off a chain -/

/-- A reflexive and transitive relation that every edit meets is met by a chain of edits. -/
theorem Edits.carries {b : Bool} {R : State → State → Prop} (hrefl : ∀ s, R s s)
    (htrans : ∀ {r s t}, R r s → R s t → R r t) (hedit : ∀ {s t}, Edit b s t → R s t) {s t : State}
    (h : Edits b s t) : R s t := by
  unfold Edits at h
  induction h with
  | refl => exact hrefl s
  | tail _ he ih => exact htrans ih (hedit he)

/-- What every edit leaves as it stands: the settings, the levels, the clock, the profile table, the port, the
waiting commands and the stage plan. -/
structure State.Standing (s t : State) : Prop where
  ctl : t.ctl = s.ctl
  pins : t.pins = s.pins
  clk : t.clk = s.clk
  verdicts : t.verdicts = s.verdicts
  port : t.port = s.port
  pending : t.pending = s.pending
  plan : t.head.plan = s.head.plan

theorem Edits.standing {b : Bool} {s t : State} (h : Edits b s t) : s.Standing t := by
  refine h.carries (fun s => ⟨rfl, rfl, rfl, rfl, rfl, rfl, rfl⟩) ?_ ?_
  · exact fun h h' => ⟨h'.ctl.trans h.ctl, h'.pins.trans h.pins, h'.clk.trans h.clk,
      h'.verdicts.trans h.verdicts, h'.port.trans h.port, h'.pending.trans h.pending, h'.plan.trans h.plan⟩
  · intro s t he
    cases he with
    | own c h hp => exact ⟨rfl, rfl, rfl, rfl, rfl, rfl, hp⟩
    | gate j v hj hg => constructor <;> simp
    | _ => exact ⟨rfl, rfl, rfl, rfl, rfl, rfl, rfl⟩

section Standing

variable {s t : State} (h : s.Standing t)
include h

theorem State.Standing.cfg : t.cfg = s.cfg := congrArg Control.taken h.ctl

theorem State.Standing.inRun : t.inRun = s.inRun := congrArg (fun c => c.mode.inRun) h.ctl

theorem State.Standing.dist (p : Word) : t.dist p = s.dist p := by simp [State.dist, h.clk]

end Standing

/-- At a strobe, what is on the line, the watcher and the gate flags of the peer table stand. -/
theorem Edits.line_frame {s t : State} (h : Edits false s t) :
    t.line.sending = s.line.sending ∧ t.line.watcher = s.line.watcher
      ∧ t.peers.gateConflict = s.peers.gateConflict ∧ t.peers.gateShort = s.peers.gateShort := by
  refine h.carries (R := fun s t => t.line.sending = s.line.sending ∧ t.line.watcher = s.line.watcher
    ∧ t.peers.gateConflict = s.peers.gateConflict ∧ t.peers.gateShort = s.peers.gateShort)
    (fun s => ⟨rfl, rfl, rfl, rfl⟩) ?_ ?_
  · rintro r s t ⟨h1, h2, h3, h4⟩ ⟨h1', h2', h3', h4'⟩
    exact ⟨h1'.trans h1, h2'.trans h2, h3'.trans h3, h4'.trans h4⟩
  · intro s t he
    cases he with
    | flags hh a b => simp at hh
    | line l hq hs => exact ⟨(hs rfl).1, (hs rfl).2, rfl, rfl⟩
    | gate j v hj hg => simp
    | _ => exact ⟨rfl, rfl, rfl, rfl⟩

/-- The pitches of the track, and their order, stand. -/
theorem Edits.pitches {b : Bool} {s t : State} (h : Edits b s t) :
    t.track.map Jar.pitch = s.track.map Jar.pitch := by
  refine h.carries (R := fun s t => t.track.map Jar.pitch = s.track.map Jar.pitch) (fun _ => rfl)
    (fun h h' => h'.trans h) ?_
  intro s t he
  cases he with
  | track f hf =>
    rw [List.map_map]
    exact List.map_congr_left fun x hx => (hf x hx).1
  | gate j v hj hg => simp
  | _ => rfl

/-- Every record follows one that stood there. -/
theorem Edits.follows {b : Bool} {s t : State} (h : Edits b s t) :
    ∀ j' ∈ t.track, ∃ j ∈ s.track, j.Follows j' := by
  refine h.carries (R := fun s t => ∀ j' ∈ t.track, ∃ j ∈ s.track, j.Follows j')
    (fun _ j hj => ⟨j, hj, .refl j⟩) ?_ ?_
  · intro r s t h h' j'' hj''
    obtain ⟨j', hj', hf'⟩ := h' j'' hj''
    obtain ⟨j, hj, hf⟩ := h j' hj'
    exact ⟨j, hj, hf.trans hf'⟩
  · intro s t he
    have same : ∀ j' ∈ s.track, ∃ j ∈ s.track, j.Follows j' := fun j hj => ⟨j, hj, .refl j⟩
    cases he with
    | track f hf =>
      intro j' hj'
      obtain ⟨x, hx, rfl⟩ := List.mem_map.mp hj'
      obtain ⟨-, j, hj, he⟩ := hf x hx
      exact ⟨j, hj, he.toFollows⟩
    | gate j v hj hg => simpa using same
    | _ => exact same

/-- An edit keeps every held record under a LIVE claimant (R62). -/
theorem Edit.heldLaw {b : Bool} {s t : State} (h : Edit b s t) (hs : s.HeldLaw) : t.HeldLaw := by
  cases h with
  | track f hf =>
    intro j' hj' k hk
    obtain ⟨x, hx, rfl⟩ := List.mem_map.mp hj'
    obtain ⟨-, j, hj, he⟩ := hf x hx
    exact (he.held k hk).elim (hs j hj k) id
  | peers r hp =>
    intro j hj k hk
    refine ((hp k).live (hs j hj k hk)).resolve_right fun hfree => ?_
    simp [hfree j hj] at hk
  | gate j v hj hg => simpa [State.HeldLaw, State.peer] using hs
  | _ => exact hs

theorem Edits.heldLaw {b : Bool} {s t : State} (h : Edits b s t) : s.HeldLaw → t.HeldLaw :=
  h.carries (R := fun s t => s.HeldLaw → t.HeldLaw) (fun _ => id) (fun h h' => h' ∘ h) Edit.heldLaw

/-- An edit keeps every lapse count fit, under a park limit of 1 or more (R76). -/
theorem Edits.parkLaw {b : Bool} {s t : State} (h : Edits b s t) (hl : 1 ≤ s.cfg.parkLimit) (hs : s.ParkLaw) :
    t.ParkLaw := by
  have key := h.carries (R := fun s t => t.cfg = s.cfg ∧ (1 ≤ s.cfg.parkLimit → s.ParkLaw → t.ParkLaw))
    (fun _ => ⟨rfl, fun _ => id⟩)
    (fun h h' => ⟨h'.1.trans h.1, fun hl => h'.2 (h.1 ▸ hl) ∘ h.2 hl⟩)
    (fun {s t} he => by
      refine ⟨(Edits.refl.then_ he).standing.cfg, fun hl hs => ?_⟩
      cases he with
      | peers r hp => exact fun k => (hp k).lapses hl (hs k)
      | gate j v hj hg => simpa [State.ParkLaw, State.peer] using hs
      | _ => exact hs)
  exact key.2 hl hs

/-- No counter falls (R180). -/
theorem State.gateInsert_counters_le (s : State) (p : Word) (v : Verdict) (i : Fin 30) :
    (s.counters.get i).toNat ≤ ((s.gateInsert p v).counters.get i).toNat := by
  unfold State.gateInsert
  dsimp only
  split
  · exact le_rfl
  · split
    · exact le_rfl
    · exact State.countBy_counters_le _ _ i 1

theorem Edits.counters_le {b : Bool} {s t : State} (h : Edits b s t) (i : Fin 30) :
    (s.counters.get i).toNat ≤ (t.counters.get i).toNat := by
  refine h.carries (R := fun s t => (s.counters.get i).toNat ≤ (t.counters.get i).toNat) (fun _ => le_rfl)
    le_trans ?_
  intro s t he
  cases he with
  | count c k => exact s.countBy_counters_le c i k
  | gate j v hj hg => exact s.gateInsert_counters_le _ v i
  | _ => exact le_rfl

/-- The transmit queue stays within 8 frames (R92). -/
theorem Edits.queue_le {b : Bool} {s t : State} (h : Edits b s t) :
    s.line.queue.length ≤ 8 → t.line.queue.length ≤ 8 := by
  refine h.carries (R := fun s t => s.line.queue.length ≤ 8 → t.line.queue.length ≤ 8) (fun _ => id)
    (fun h h' => h' ∘ h) ?_
  intro s t he
  cases he with
  | line l hq hs => exact hq
  | gate j v hj hg => simp
  | _ => exact id

/-- The draw list keeps one entry a station (R126). -/
theorem Edits.drawLaw {b : Bool} {s t : State} (h : Edits b s t) : s.DrawLaw → t.DrawLaw := by
  refine h.carries (R := fun s t => s.DrawLaw → t.DrawLaw) (fun _ => id) (fun h h' => h' ∘ h) ?_
  intro s t he
  cases he with
  | steam x hx => exact hx
  | gate j v hj hg => simp [State.DrawLaw]
  | _ => exact id

end Sys2Proof.Machine
end


section
/-! PROOF. The track law (R33, R34) and the gate law (R154, R157, R160) through edits and through a strobe. -/

namespace Sys2Proof.Machine

/-! ### The track law -/

theorem State.trackLaw_iff_pitches (s : State) :
    s.TrackLaw ↔ (s.track.map Jar.pitch).Pairwise (fun p q => s.dist q < s.dist p)
      ∧ ∀ p ∈ s.track.map Jar.pitch, s.dist p < s.cfg.retireDistance ∧ s.dist p < 63 := by
  rw [List.pairwise_map, List.forall_mem_map]

/-- The track law is a law of the pitches at a standing N and settings. -/
theorem State.TrackLaw.of_pitches {s t : State} (h : s.TrackLaw) (hp : t.track.map Jar.pitch = s.track.map Jar.pitch)
    (hn : t.clk.n = s.clk.n) (hc : t.cfg = s.cfg) : t.TrackLaw := by
  rw [State.trackLaw_iff_pitches] at h ⊢
  have hd : t.dist = s.dist := by funext p; simp [State.dist, hn]
  rwa [hp, hd, hc]

theorem Edits.trackLaw {b : Bool} {s t : State} (h : Edits b s t) (hs : s.TrackLaw) : t.TrackLaw :=
  hs.of_pitches h.pitches (by rw [h.standing.clk]) h.standing.cfg

section TrackLaw

variable {s : State} (h : s.TrackLaw)
include h

/-- No two records of the track have one pitch (R35). -/
theorem State.TrackLaw.nodup : (s.track.map Jar.pitch).Nodup := by
  refine List.Pairwise.imp ?_ ((State.trackLaw_iff_pitches s).mp h).1
  rintro p q hlt rfl
  exact lt_irrefl _ hlt

/-- A record is told by its pitch (R35). -/
theorem State.TrackLaw.unique {j j' : Jar} (hj : j ∈ s.track) (hj' : j' ∈ s.track) (hp : j.pitch = j'.pitch) :
    j = j' :=
  List.inj_on_of_nodup_map h.nodup hj hj' hp

/-- The track holds at most 63 records: their distances differ and lie below 63 (R33). -/
theorem State.TrackLaw.length_le : s.track.length ≤ 63 := by
  obtain ⟨hs, hb⟩ := h
  have hnodup : (s.track.map (fun j => s.dist j.pitch)).Nodup := by
    rw [List.Nodup, List.pairwise_map]
    exact hs.imp fun hlt => hlt.ne'
  have hsub : (s.track.map (fun j => s.dist j.pitch)).toFinset ⊆ Finset.range 63 := by
    intro d hd
    obtain ⟨j, hj, rfl⟩ := List.mem_map.mp (List.mem_toFinset.mp hd)
    exact Finset.mem_range.mpr (hb j hj).2
  have hcard := Finset.card_le_card hsub
  rwa [List.toFinset_card_of_nodup hnodup, List.length_map, Finset.card_range] at hcard

/-- At a strobe every record of the track is one pitch further. -/
theorem State.TrackLaw.dist_advance {j : Jar} (hj : j ∈ s.track) :
    s.advanceN.dist j.pitch = s.dist j.pitch + 1 :=
  distance_succ _ _ (by have := (h.2 j hj).2; unfold State.dist at this; omega)

/-- The pitch of a new sighting is no record's: its distance is 65535 before the strobe. -/
theorem State.TrackLaw.lacks_next : s.lacks (s.clk.n + 1) := by
  intro j hj hp
  have hfar := (h.2 j hj).2
  unfold State.dist at hfar
  rw [hp, (distance_eq_iff s.clk.n (s.clk.n + 1) 65535 (by decide)).mpr (by bv_omega)] at hfar
  omega

end TrackLaw

theorem State.ageTrack_frame (s : State) (pins : StrobePins) :
    s.ageTrack pins = { s with
      track := s.track.filter (fun j => decide (s.dist j.pitch < s.cfg.retireDistance))
        ++ (if pins.eye then [newJar s.cfg s.clk.n pins.temp] else [])
      counters := (s.ageTrack pins).counters } := by
  unfold State.ageTrack
  dsimp only
  split
  · simp [State.count, State.countBy]
  · simp

theorem State.gateDecision_frame (s : State) :
    s.gateDecision = { s with gate := s.gateDecision.gate, counters := s.gateDecision.counters } := by
  unfold State.gateDecision
  dsimp only
  split
  · split <;> rfl
  · rfl

/-- The state in which a strobe's work on the records begins: N advanced, the gate decided, the track aged. -/
def State.sighted (pins : StrobePins) (s : State) : State := (s.advanceN.gateDecision).ageTrack pins

/-- What a strobe has changed when its work on the records begins. -/
theorem State.sighted_frame (s : State) (pins : StrobePins) :
    s.sighted pins = { s with
      clk := { s.clk with n := s.clk.n + 1 }
      gate := s.advanceN.gateDecision.gate
      track := s.track.filter (fun j => decide (s.advanceN.dist j.pitch < s.cfg.retireDistance))
        ++ (if pins.eye then [newJar s.cfg (s.clk.n + 1) pins.temp] else [])
      counters := (s.sighted pins).counters } := by
  unfold State.sighted
  rw [State.ageTrack_frame, State.gateDecision_frame]
  rfl

/-- The rest of a strobe is a chain of edits. -/
theorem Edits.strobe (s : State) (pins : StrobePins) : Edits false (s.sighted pins) (s.strobe pins) :=
  ((((((((Edits.refl (s := s.sighted pins)).lapseChecks.vacateChuck.engageOrFall pins).dropStale).endDraws
    ).claimTest).stageWork pins).probe pins).exitDecision)

/-- In the aged track every record is short of Rd, and the ones that stood before are one pitch further. -/
theorem State.TrackLaw.sighted {s : State} (h : s.TrackLaw) (hr : s.cfg.retireDistance ≤ 63)
    (hpos : 0 < s.cfg.retireDistance) (pins : StrobePins) : (s.sighted pins).TrackLaw := by
  rw [State.sighted_frame]
  have hold : ∀ j ∈ s.track, distance (s.clk.n + 1) j.pitch = s.dist j.pitch + 1 := fun j => h.dist_advance
  have hnew : distance (s.clk.n + 1) (s.clk.n + 1) = 0 := distance_self _
  constructor
  · refine List.pairwise_append.mpr ⟨?_, ?_, ?_⟩
    · refine (h.1.filter _).imp_of_mem fun {x y} hx hy hlt => ?_
      have hx' := hold x (List.mem_filter.mp hx).1
      have hy' := hold y (List.mem_filter.mp hy).1
      simp only [State.dist] at hx' hy' hlt ⊢
      omega
    · split <;> simp
    · intro x hx y hy
      have hx' := hold x (List.mem_filter.mp hx).1
      split at hy
      · obtain rfl := List.mem_singleton.mp hy
        simp only [State.dist, newJar, hnew, hx']
        omega
      · simp at hy
  · intro j hj
    rcases List.mem_append.mp hj with hj | hj
    · have hlt := (List.mem_filter.mp hj).2
      rw [decide_eq_true_eq] at hlt
      exact ⟨hlt, hlt.trans_le hr⟩
    · split at hj
      · obtain rfl := List.mem_singleton.mp hj
        simp only [State.dist, newJar, hnew]
        exact ⟨hpos, by decide⟩
      · simp at hj

theorem State.TrackLaw.strobe {s : State} (h : s.TrackLaw) (hf : s.cfg.Fit) (pins : StrobePins) :
    (s.strobe pins).TrackLaw :=
  (Edits.strobe s pins).trackLaw (h.sighted hf.retire.2 (Nat.zero_lt_of_lt hf.retire.1) pins)

/-! ### The gate law -/

/-- The distance to the gate of a record at or short of X is what is left of G (R154). -/
theorem gateDistance_of_dist {i : Image} {n p : Word} (hd : distance n p ≤ i.gateOffset)
    (hg : i.gateOffset ≤ 250) : gateDistance i n p = i.gateOffset - distance n p := by
  unfold gateDistance distance at *
  have := n.isLt
  have := p.isLt
  simp only [BitVec.toNat_sub, BitVec.toNat_add, BitVec.toNat_ofNat] at *
  omega

/-- The range of an entry's distance to the gate: 1 to G (log entry 22). -/
abbrev State.gateRange (s : State) (p : Word) : Prop :=
  1 ≤ gateDistance s.cfg s.clk.n p ∧ gateDistance s.cfg s.clk.n p ≤ s.cfg.gateOffset

/-- A record of the track is in the gate's range. -/
theorem State.TrackLaw.gateRange {s : State} (h : s.TrackLaw) (hf : s.cfg.Fit) (hg : s.cfg.gateRole = true)
    {j : Jar} (hj : j ∈ s.track) : s.gateRange j.pitch := by
  have hd := (h.2 j hj).1
  obtain ⟨hxg, hg250⟩ := hf.offset hg
  simp only [Image.retireDistance, hg, if_true, State.dist] at hd
  have hle : distance s.clk.n j.pitch ≤ s.cfg.gateOffset := by omega
  rw [State.gateRange, gateDistance_of_dist hle hg250]
  omega

/-- An insertion in the gate's range keeps the gate law (R157, R158). -/
theorem State.GateLaw.gateInsert {s : State} (h : s.GateLaw) {p : Word} (v : Verdict) (hp : s.gateRange p)
    (hg : s.cfg.gateRole = true) : (s.gateInsert p v).GateLaw := by
  obtain ⟨hlen, hsort, hrange, hflood, hrole⟩ := h
  unfold State.gateInsert
  dsimp only
  split
  · exact ⟨hlen, hsort, hrange, hflood, hrole⟩
  · rename_i hnew
    have hnew' : ∀ x ∈ s.gate.queue, x.pitch ≠ p := by simpa using hnew
    have hperm := gatePlace_perm s.cfg s.clk.n ⟨p, v⟩ s.gate.queue
    have hsorted := gatePlace_sorted s.cfg s.clk.n ⟨p, v⟩ s.gate.queue hsort hnew'
    have hall : ∀ e ∈ gatePlace s.cfg s.clk.n ⟨p, v⟩ s.gate.queue, s.gateRange e.pitch := by
      intro e he
      rcases List.mem_cons.mp (hperm.mem_iff.mp he) with rfl | he
      · exact hp
      · exact hrange e he
    have hplen : (gatePlace s.cfg s.clk.n ⟨p, v⟩ s.gate.queue).length = s.gate.queue.length + 1 := by
      simpa using hperm.length_eq
    have hnil : s.cfg.gateRole = false → False := by simp [hg]
    split
    · rename_i hroom
      simp only [Config.gatePlaces] at hroom
      refine ⟨?_, hsorted, hall, fun _ hq => ?_, fun hr => (hnil hr).elim⟩
      · simp only [hplen]; omega
      · simp only at hq; simp [hq] at hplen
    · rename_i hfull
      simp only [Config.gatePlaces] at hfull
      have htail : (gatePlace s.cfg s.clk.n ⟨p, v⟩ s.gate.queue).tail.length = 32 := by
        rw [List.length_tail, hplen]; omega
      refine ⟨?_, hsorted.sublist (List.tail_sublist _), fun e he => hall e (List.mem_of_mem_tail he),
        fun _ hq => ?_, fun hr => (hnil hr).elim⟩
      · simp [htail]
      · simp only [State.count_gate] at hq; simp [hq] at htail

/-- The gate law stands where the gate, N and the settings stand. -/
theorem State.GateLaw.congr {s t : State} (h : s.GateLaw) (hg : t.gate = s.gate) (hn : t.clk.n = s.clk.n)
    (hc : t.cfg = s.cfg) : t.GateLaw := by
  unfold State.GateLaw at *
  rwa [hg, hn, hc]

theorem Edits.gateLaw {b : Bool} {s t : State} (h : Edits b s t) (hf : s.cfg.Fit) (ht : s.TrackLaw)
    (hs : s.GateLaw) : t.GateLaw := by
  have key := h.carries (R := fun s t => t.cfg = s.cfg ∧ (s.TrackLaw → t.TrackLaw)
      ∧ (s.cfg.Fit → s.TrackLaw → s.GateLaw → t.GateLaw))
    (fun _ => ⟨rfl, id, fun _ _ => id⟩)
    (fun h h' => ⟨h'.1.trans h.1, h'.2.1 ∘ h.2.1,
      fun hf ht hs => h'.2.2 (h.1 ▸ hf) (h.2.1 ht) (h.2.2 hf ht hs)⟩)
    (fun {s t} he => by
      have hone := Edits.refl.then_ he
      refine ⟨hone.standing.cfg, hone.trackLaw, fun hf ht hs => ?_⟩
      cases he with
      | gate j v hj hg =>
        obtain ⟨x, hx, hp⟩ := hj
        rw [← hp]
        exact hs.gateInsert v (ht.gateRange hf hg hx) hg
      | _ => exact hs)
  exact key.2.2 hf ht hs

/-- The pitches in the gate queue differ: their distances to the gate do. -/
theorem State.GateLaw.nodup {s : State} (h : s.GateLaw) : (s.gate.queue.map GateEntry.pitch).Nodup := by
  rw [List.Nodup, List.pairwise_map]
  refine h.2.1.imp ?_
  rintro x y hlt heq
  rw [heq] at hlt
  exact lt_irrefl _ hlt

/-- An entry short of the gate is one pitch nearer after a strobe. -/
theorem gateDistance_succ {i : Image} {n p : Word} (h : 1 ≤ gateDistance i n p) :
    gateDistance i (n + 1) p = gateDistance i n p - 1 := by
  unfold gateDistance at *
  have := n.isLt
  have := p.isLt
  have h1 : (1 : Word).toNat = 1 := rfl
  simp only [BitVec.toNat_sub, BitVec.toNat_add, BitVec.toNat_ofNat, h1] at *
  omega

/-- An entry is due exactly when nothing is left of its distance to the gate (R159). -/
theorem GateEntry.dueAt_iff (i : Image) (n : Word) (e : GateEntry) :
    e.dueAt i n = true ↔ gateDistance i n e.pitch = 0 := by
  unfold GateEntry.dueAt gateDistance
  rw [beq_iff_eq]
  constructor
  · intro he; simp [he]
  · intro h0
    have := BitVec.eq_of_toNat_eq (y := 0#16) h0
    bv_omega

/-- A due head leaves the queue, with GATE at REJECT (R159). -/
theorem Gate.decide_due {i : Image} {n : Word} {g : Gate} {e : GateEntry} {rest : List GateEntry}
    (hq : g.queue = e :: rest) (hd : e.dueAt i n = true) :
    g.decide i n = ⟨rest, g.flood && !rest.isEmpty, .reject⟩ := by
  simp [Gate.decide, hq, hd]

/-- With no head due the queue stands, and GATE shows FLOOD (R159). -/
theorem Gate.decide_waiting {i : Image} {n : Word} {g : Gate}
    (hd : ∀ e ∈ g.queue.head?, e.dueAt i n = false) :
    g.decide i n = ⟨g.queue, g.flood && !g.queue.isEmpty,
      if g.flood && !g.queue.isEmpty then .reject else .pass⟩ := by
  cases hq : g.queue with
  | nil => simp [Gate.decide, hq]
  | cons e rest => simp [Gate.decide, hq, hd e (by simp [hq])]

/-- The gate after the decision of a strobe. -/
theorem State.gateDecision_gate (s : State) :
    s.gateDecision.gate = if s.cfg.gateRole then s.gate.decide s.cfg s.clk.n else s.gate := by
  unfold State.gateDecision
  dsimp only
  split
  · split <;> rfl
  · rfl

/-- The gate's decision at a strobe keeps the gate law: the due entry leaves, the others come nearer (R159). -/
theorem State.GateLaw.advance {s : State} (h : s.GateLaw) : s.advanceN.gateDecision.GateLaw := by
  obtain ⟨hlen, hsort, hrange, hflood, hrole⟩ := h
  have hg : s.advanceN.gateDecision.gate
      = if s.cfg.gateRole then s.gate.decide s.cfg (s.clk.n + 1) else s.gate := State.gateDecision_gate _
  have hframe : s.advanceN.gateDecision.cfg = s.cfg ∧ s.advanceN.gateDecision.clk.n = s.clk.n + 1 := by
    rw [State.gateDecision_frame]; exact ⟨rfl, rfl⟩
  unfold State.GateLaw
  rw [hframe.1, hframe.2, hg]
  cases hgr : s.cfg.gateRole with
  | false => simp [hrole hgr]
  | true =>
    rw [if_pos rfl]
    have hnear : ∀ e ∈ s.gate.queue,
        gateDistance s.cfg (s.clk.n + 1) e.pitch = gateDistance s.cfg s.clk.n e.pitch - 1 :=
      fun e he => gateDistance_succ (hrange e he).1
    have hsort' : s.gate.queue.Pairwise (fun x y => gateDistance s.cfg (s.clk.n + 1) x.pitch
        < gateDistance s.cfg (s.clk.n + 1) y.pitch) := by
      refine hsort.imp_of_mem fun {x y} hx hy hlt => ?_
      rw [hnear x hx, hnear y hy]
      have := hrange x hx
      omega
    have hupper : ∀ e ∈ s.gate.queue, gateDistance s.cfg (s.clk.n + 1) e.pitch ≤ s.cfg.gateOffset :=
      fun e he => by have := (hrange e he).2; rw [hnear e he]; omega
    have hfirst : ∀ e rest, s.gate.queue = e :: rest → ∀ x ∈ rest,
        gateDistance s.cfg (s.clk.n + 1) e.pitch < gateDistance s.cfg (s.clk.n + 1) x.pitch := by
      intro e rest hq
      rw [hq] at hsort'
      exact (List.pairwise_cons.mp hsort').1
    by_cases hdue : ∀ e ∈ s.gate.queue.head?, e.dueAt s.cfg (s.clk.n + 1) = false
    · rw [Gate.decide_waiting hdue]
      refine ⟨hlen, hsort', fun x hx => ⟨?_, hupper x hx⟩, fun hfl hnil => ?_, fun hr => by cases hr⟩
      · cases hq : s.gate.queue with
        | nil => simp [hq] at hx
        | cons e rest =>
          have hne : gateDistance s.cfg (s.clk.n + 1) e.pitch ≠ 0 := fun h0 => by
            have hwait := hdue e (by simp [hq])
            rw [(GateEntry.dueAt_iff _ _ _).mpr h0] at hwait
            cases hwait
          rw [hq] at hx
          rcases List.mem_cons.mp hx with rfl | hx
          · omega
          · have := hfirst e rest hq x hx
            omega
      · dsimp only at hfl hnil
        simp [hnil] at hfl
    · push Not at hdue
      obtain ⟨e, he, hd⟩ := hdue
      obtain ⟨rest, hq⟩ : ∃ rest, s.gate.queue = e :: rest := by
        cases hq : s.gate.queue with
        | nil => simp [hq] at he
        | cons x rest => simp only [hq, List.head?_cons, Option.mem_def, Option.some.injEq] at he; exact ⟨rest, by rw [he]⟩
      rw [Gate.decide_due hq (by simpa using hd)]
      have hmem : ∀ x ∈ rest, x ∈ s.gate.queue := fun x hx => by rw [hq]; exact List.mem_cons_of_mem _ hx
      refine ⟨?_, ?_, fun x hx => ⟨?_, hupper x (hmem x hx)⟩, fun hfl hnil => ?_, fun hr => by cases hr⟩
      · simp only [hq, List.length_cons] at hlen; simp only; omega
      · rw [hq] at hsort'; exact hsort'.tail
      · have := hfirst e rest hq x hx
        omega
      · dsimp only at hfl hnil
        simp [hnil] at hfl

theorem State.GateLaw.strobe {s : State} (h : s.GateLaw) (ht : s.TrackLaw) (hf : s.cfg.Fit)
    (pins : StrobePins) : (s.strobe pins).GateLaw := by
  have hcfg : (s.sighted pins).cfg = s.cfg := by rw [State.sighted_frame]
  have hs : (s.sighted pins).GateLaw := by
    refine h.advance.congr ?_ ?_ ?_
    · rw [State.sighted_frame]
    · rw [State.sighted_frame, State.gateDecision_frame]; rfl
    · rw [State.sighted_frame, State.gateDecision_frame]; rfl
  exact (Edits.strobe s pins).gateLaw (hcfg ▸ hf)
    (ht.sighted hf.retire.2 (Nat.zero_lt_of_lt hf.retire.1) pins) hs

end Sys2Proof.Machine
end


section
/-! PROOF. What a frame of the line brings, as a chain of edits: the send side, the peer table, the records that
a peer's frame names, and the station's own withdrawal. -/

namespace Sys2Proof.Machine

/-! ### A peer's record edited -/

/-- A record that stays LIVE where it was, with a lapse count that fits, is an edit of it. -/
theorem State.PeerEdit.of_keeps {s : State} {k : Station} {p : Peer}
    (hl : (s.peer k).isLive = true → p.isLive = true)
    (hp : 1 ≤ s.cfg.parkLimit → (s.peer k).lapsesOk s.cfg.parkLimit = true →
      p.lapsesOk s.cfg.parkLimit = true) : s.PeerEdit k p :=
  ⟨fun h => .inl (hl h), hp⟩

/-- A record with its state and lapse count as they were is an edit, whatever else of it changes. -/
theorem State.PeerEdit.of_same {s : State} {k : Station} {p : Peer} (hst : p.st = (s.peer k).st)
    (hl : p.lapses = (s.peer k).lapses) : s.PeerEdit k p := by
  refine .of_keeps (fun h => ?_) (fun _ h => ?_)
  · simpa [Peer.isLive, hst] using h
  · simpa [Peer.lapsesOk, hst, hl] using h

/-- A record that becomes LIVE from ABSENT, with its lapse count kept, is an edit (R70, R73). -/
theorem State.PeerEdit.of_absent {s : State} {k : Station} {p : Peer} (ha : (s.peer k).st = .absent)
    (hst : p.st = .live) (hl : p.lapses = (s.peer k).lapses) : s.PeerEdit k p := by
  refine .of_keeps (fun _ => by simp [Peer.isLive, hst]) (fun hpark h => ?_)
  simp only [Peer.lapsesOk, ha, hst, hl, decide_eq_true_eq] at h ⊢
  omega

/-- A record that becomes LIVE with its lapse count at 0 is an edit (R73, R79). -/
theorem State.PeerEdit.of_cleared {s : State} {k : Station} {p : Peer} (hst : p.st = .live)
    (hl : p.lapses = 0) : s.PeerEdit k p := by
  refine .of_keeps (fun _ => by simp [Peer.isLive, hst]) (fun hpark _ => ?_)
  simp only [Peer.lapsesOk, hst, hl, decide_eq_true_eq]
  omega

/-- The refresh of one peer's record is an edit of it (R78, R79). -/
theorem State.PeerEdit.refreshPeer (s : State) (own k p : Station) :
    s.PeerEdit p (refreshPeer own k p s.peers.recs) := by
  unfold Machine.refreshPeer
  dsimp only
  split
  · rename_i r hst
    split
    · exact .of_cleared rfl rfl
    · refine .of_keeps (fun h => ?_) (fun _ h => ?_)
      · simp [State.peer, Peer.isLive, hst] at h
      · simp only [State.peer, Peer.lapsesOk, hst] at h ⊢
        exact h
  all_goals exact .of_same rfl rfl

namespace Edits

variable {r s : State}

/-! ### The send side and the peer table -/

theorem line (h : Edits true r s) (l : BankLine) (hq : s.line.queue.length ≤ 8 → l.queue.length ≤ 8) :
    Edits true r { s with line := l } :=
  h.then_ (.line l hq (fun hh => by cases hh))

theorem refresh {b : Bool} (h : Edits b r s) (k : Station) : Edits b r (s.refresh k) := by
  unfold State.refresh
  refine .ite (h.then_ (.peers _ fun p => ?_)) h
  have hget : (Vector.ofFn fun p => refreshPeer s.cfg.own k p s.peers.recs).get p
      = refreshPeer s.cfg.own k p s.peers.recs := by
    change (Vector.ofFn fun p => refreshPeer s.cfg.own k p s.peers.recs)[p.val] = _
    simp
  rw [hget]
  exact .refreshPeer s _ k p

theorem noteInStep {b : Bool} (h : Edits b r s) (k : Station) (kind : Kind) :
    Edits b r (s.noteInStep k kind) := by
  unfold State.noteInStep
  dsimp only
  refine h.putPeer ?_
  cases hst : (s.peer k).st with
  | absent =>
    by_cases hk : kind = .hello ∨ kind = .withdraw
    · exact .of_same (by simp [hk, hst]) rfl
    · exact .of_absent hst (by simp [hk]) rfl
  | _ => exact .of_same (by simp [hst]) rfl

theorem helloOutcome (h : Edits true r s) (k : Station) {p : Peer} (hst : p.st = (s.peer k).st)
    (hl : p.lapses = (s.peer k).lapses) (check : Option MismatchReason) :
    Edits true r (s.helloOutcome k p check) := by
  unfold State.helloOutcome
  split
  · exact h.putPeer (.of_same hst hl)
  · exact h.putPeer (.of_same hst hl)
  · exact h.putPeer (.of_cleared rfl rfl)
  · rename_i hp
    exact h.putPeer (.of_absent (hst.symm.trans hp) rfl hl)
  · exact h.putPeer (.of_same hst hl)
  all_goals exact h.setAside fun _ _ => rfl

theorem takeHello (h : Edits true r s) (k : Station) (jar : Word) (a b : Byte) :
    Edits true r (s.takeHello k jar a b) := by
  unfold State.takeHello
  dsimp only
  exact .helloOutcome (h.then_ (.flags rfl _ _)) k (by rfl) (by rfl) _

theorem takeWithdraw (h : Edits true r s) (k : Station) : Edits true r (s.takeWithdraw k) := by
  unfold State.takeWithdraw
  dsimp only
  split
  · exact h.setAside fun _ _ => rfl
  · exact h.setAside fun _ _ => rfl
  · exact h.setAside fun _ _ => rfl
  all_goals exact h

theorem takeSkewed (h : Edits true r s) (k : Station) : Edits true r (s.takeSkewed k) := by
  have hc := h.count ctrSkewedFrames
  unfold State.takeSkewed
  dsimp only
  split
  · exact hc
  · exact hc.putPeer (.of_same rfl rfl)
  all_goals exact .ite (hc.setAside fun _ _ => rfl) (hc.putPeer (.of_same rfl rfl))

theorem takeSteam (h : Edits true r s) (k : Station) (jar : Word) (a b : Byte) :
    Edits true r (s.takeSteam k jar a b) := by
  unfold State.takeSteam
  refine .ite h (h.then_ (.steam _ fun hd => ?_))
  dsimp only
  split
  · exact enterDraw_nodup _ _ hd
  · exact hd

/-! ### The records that a frame names -/

theorem dropClaim (h : Edits true r s) (p : Word) : Edits true r (s.dropClaim p) := by
  unfold State.dropClaim
  have hcount := h.claims { s.claims with openClaims := s.claims.openClaims - 1 }
  exact hcount.line _ (BankLine.withdrawFrames_length _ _).trans

theorem holdFor {b : Bool} (h : Edits b r s) {j : Jar} (hj : j ∈ s.track) (hd : j.isDone = false)
    {k : Station} (hk : (s.peer k).isLive = true) (a : Byte) :
    Edits b r (s.putJar (j.holdFor s.clk.n k a)) := by
  refine h.putJar hj ⟨⟨rfl, rfl, rfl, fun h' => by simp [hd] at h', id, id⟩, fun q hq => .inr ?_⟩
  simp only [Jar.holdFor, Jar.heldBy, beq_iff_eq] at hq
  rwa [← hq]

theorem claimOnRecord (h : Edits true r s) {j : Jar} (hj : j ∈ s.track) {k : Station}
    (hk : (s.peer k).isLive = true) (a : Byte) : Edits true r (s.claimOnRecord j k a) := by
  unfold State.claimOnRecord
  split
  · rename_i hst
    exact h.holdFor hj (by simp [Jar.isDone, hst]) hk a
  · rename_i hst
    exact .ite (h.holdFor hj (by simp [Jar.isDone, hst]) hk a) h
  · rename_i hst
    exact .ite (((h.holdFor hj (by simp [Jar.isDone, hst]) hk a).dropClaim _).count _) h
  all_goals exact h

theorem takeClaim (h : Edits true r s) (k : Station) (jar : Word) (a : Byte) :
    Edits true r (s.takeClaim k jar a) := by
  unfold State.takeClaim
  split
  · rename_i hk
    split
    · rename_i j hj
      exact h.claimOnRecord (s.findJar_some hj).1 hk a
    · exact h.count _
  · exact h.count _

theorem takeRelease (h : Edits true r s) (k : Station) (jar : Word) : Edits true r (s.takeRelease k jar) := by
  unfold State.takeRelease
  split
  · rename_i j hj
    split
    · rename_i hk
      simp only [Bool.and_eq_true] at hk
      exact h.putJar (s.findJar_some hj).1 (.reopen (Jar.not_done_of_held hk.2))
    · exact h
  · exact h

theorem doneOnRecord (h : Edits true r s) {j : Jar} (hj : j ∈ s.track) (k : Station) (v : Verdict) (a : Byte) :
    Edits true r (s.doneOnRecord j k v a) := by
  have hmark : Edits true r (s.putJar { j with conflict := true }) :=
    h.putJar hj (.of_same_state rfl rfl rfl rfl id (fun _ => rfl))
  unfold State.doneOnRecord
  dsimp only
  split
  · rename_i hst
    exact h.setPeerVerdict hj (by simp [Jar.isDone, hst]) k v _ a
  · rename_i hst
    exact h.setPeerVerdict hj (by simp [Jar.isDone, hst]) k v _ a
  · rename_i hst
    exact (h.setPeerVerdict hj (by simp [Jar.isDone, hst]) k v _ a).dropClaim _
  · exact h.count _
  · exact h.count _
  · exact hmark.count _
  · exact .ite h (hmark.count _)

theorem takeDone (h : Edits true r s) (k : Station) (jar : Word) (a : Byte) :
    Edits true r (s.takeDone k jar a) := by
  unfold State.takeDone
  split
  · exact h
  · split
    · exact h.count _
    · rename_i j hj
      exact h.doneOnRecord (s.findJar_some hj).1 k _ a

theorem deliver (h : Edits true r s) (f : RxFrame) : Edits true r (s.deliver f) := by
  unfold State.deliver
  split
  · exact h.takeHello _ _ _ _
  · exact h.takeClaim _ _ _
  · exact h.takeRelease _ _
  · exact (h.refresh _).takeDone _ _ _
  · exact h.takeSteam _ _ _ _
  · exact h.takeWithdraw _

/-! ### The station's own withdrawal -/

theorem giveBackClaims (h : Edits true r s) : Edits true r s.giveBackClaims := by
  have hopen : Edits true r
      { s with track := s.track.map (fun j => if j.isClaimed then j.reopen else j) } := by
    refine h.mapReopen _ fun j _ hc => ?_
    unfold Jar.isClaimed at hc
    unfold Jar.isDone
    split at hc <;> simp_all
  unfold State.giveBackClaims
  have hcount := hopen.claims { s.claims with openClaims := 0 }
  exact hcount.line _ (BankLine.withdrawFrames_length _ _).trans

end Edits

end Sys2Proof.Machine
end


section
/-! PROOF. What a command can do, said once: every command makes one of the moves below. The laws of the whole
machine are proved move by move. -/

namespace Sys2Proof.Machine

/-! ### The moves -/

/-- What the service port, an autoload and the input levels may change: the station's control outside a run,
the levels, the profile table, the port, and the counters by CLEAR alone. -/
structure State.Desk (cleared : Prop) (s t : State) : Prop where
  rest : t = { s with
    ctl := t.ctl, pins := t.pins, verdicts := t.verdicts, port := t.port, counters := t.counters }
  taken : t.ctl.taken = s.ctl.taken
  run : s.inRun = true → t.ctl = s.ctl ∧ t.verdicts.profile = s.verdicts.profile
  mode : t.ctl.mode = s.ctl.mode ∨ (s.ctl.mode = .standby ∧ t.ctl.mode = .loading)
    ∨ (s.ctl.mode = .loading ∧ t.ctl.mode = .standby)
  profile : s.ProfileLaw → t.ProfileLaw
  counters : t.counters = s.counters ∨ (t.counters = Vector.replicate 30 0 ∧ cleared)

/-- The work of a run between two strobes: the drive and the head's own moments, a lapse, the end of a draw,
an own DONE sent, and a frame of a peer, with the line as the frame has left it. -/
inductive Work (s : State) : State → Prop where
  | lapse (p : Word) : Work s (s.lapseOne p)
  | valve : Work s s.valveFall
  | sample (tau : Byte) : Work s (s.takeSample tau)
  | angle : Work s s.takeAngle
  | expiry (hc : s.head.chuck = .drive) (hd : s.atHoldBegin = true) : Work s s.endDriveStage
  | returned (hc : s.head.chuck = .returning) : Work s s.returnStep
  | draws (f : Draw → Bool) : Work s { s with steam := { s.steam with draws := s.steam.draws.filter f } }
  | sent (l : BankLine) (hq : s.line.queue.length ≤ 8 → l.queue.length ≤ 8) (k : Station) :
      Work s (({ s with line := l }.count ctrFramesSent).refresh k)
  | frame (l : BankLine) (hq : s.line.queue.length ≤ 8 → l.queue.length ≤ 8) (f : RxFrame)
      (ho : s.cfg.isOwn f.sender = false) :
      Work s (({ s with line := l }.noteInStep f.sender f.kind).deliver f)
  | skewed (l : BankLine) (hq : s.line.queue.length ≤ 8 → l.queue.length ≤ 8) (k : Station) :
      Work s ({ s with line := l }.takeSkewed k)

/-- The moves of the station. -/
inductive Move (c : Instr) (s : State) : State → Prop where
  | power (straps : Straps) (pair : EncPair) (hc : c = .powerUp straps pair ∨ c = .resetPin straps pair) :
      Move c s (State.powerUpValues { s.pins with straps := straps } pair s.pending)
  | desk {t : State} (h : s.Desk ((∃ a, c = .clear a) ∨ c = .serviceWrite 1) t) : Move c s t
  | line (l : BankLine) (k : Vector Word 30) (hl : s.LineLaw → State.LineLaw { s with line := l })
      (hk : ∀ i : Fin 30, (s.counters.get i).toNat ≤ (k.get i).toNat) :
      Move c s { s with line := l, counters := k }
  | clock (x : Clock) (hn : x.n = s.clk.n)
      (ha : s.AllowanceLaw → s.inRun = true → (x.h - x.c).toNat ≤ s.cfg.allowance) :
      Move c s { s with clk := x }
  | strobe (x : Clock) (pins : StrobePins) (hr : s.inRun = true) (hn : x.n = s.clk.n)
      (ha : s.AllowanceLaw → s.inRun = true → (x.h - x.c).toNat ≤ s.cfg.allowance) :
      Move c s ({ s with clk := x }.strobe pins)
  | work {t : State} (hr : s.inRun = true) (h : Work s t) : Move c s t
  | stop (x : Clock) (p : Pins) (cause : StopCause) (hr : s.inRun = true) :
      Move c s ({ s with clk := x, pins := p }.runStop cause)
  | fault (l : BankLine) (p : Pins) (cause : FaultCause) (hm : s.inRun = true ∨ s.ctl.mode = .standby) :
      Move c s ({ s with line := l, pins := p }.enterFault cause)
  | start (p : Pins) (cap : Bool) (hm : s.ctl.mode = .standby) (hs : startCheck s.ctl.image = 0) :
      Move c s ({ s with pins := p }.start cap)
  | startJam (p : Pins) (cap : Bool) (hm : s.ctl.mode = .standby) (hs : startCheck s.ctl.image = 0)
      (hj : s.pins.jam = true) : Move c s (({ s with pins := p }.start cap).withdraw .jam)
  | giveUp (p : Pins) (why : FaultInput) (hm : s.ctl.mode = .run) :
      Move c s ({ s with pins := p }.giveUpCycle.withdraw why)

theorem Work.edits {s t : State} (h : Work s t) : Edits true s t := by
  cases h with
  | lapse p => exact Edits.refl.lapseOne p
  | valve => exact Edits.refl.valveFall
  | sample tau => exact Edits.refl.takeSample tau
  | angle => exact Edits.refl.takeAngle
  | expiry hc hd => exact Edits.refl.endDriveStage
  | returned hc => exact Edits.refl.returnStep
  | draws f => exact Edits.refl.filterDraws f
  | sent l hq k => exact ((Edits.refl.line l hq).count _).refresh k
  | frame l hq f ho => exact ((Edits.refl.line l hq).noteInStep _ _).deliver f
  | skewed l hq k => exact (Edits.refl.line l hq).takeSkewed k

/-! ### The port and the autoload keep to the desk -/

namespace State.Desk

variable {q : Prop} {s t : State}

theorem refl (s : State) : s.Desk q s :=
  ⟨rfl, rfl, fun _ => ⟨rfl, rfl⟩, .inl rfl, id, .inl rfl⟩

/-- A change of the port alone, after whatever else of the desk has changed. -/
theorem port (h : s.Desk q t) (p : Port) : s.Desk q { t with port := p } := by
  obtain ⟨hrest, htaken, hrun, hmode, hprofile, hcounters⟩ := h
  refine ⟨?_, htaken, hrun, hmode, hprofile, hcounters⟩
  rw [hrest]

theorem pins (s : State) (p : Pins) : s.Desk q { s with pins := p } :=
  ⟨rfl, rfl, fun _ => ⟨rfl, rfl⟩, .inl rfl, id, .inl rfl⟩

/-- A change of the port before whatever else of the desk changes. -/
theorem after_port {p : Port} (h : { s with port := p }.Desk q t) : s.Desk q t := by
  obtain ⟨hrest, htaken, hrun, hmode, hprofile, hcounters⟩ := h
  exact ⟨hrest, htaken, hrun, hmode, hprofile, hcounters⟩

theorem mono {q' : Prop} (h : s.Desk q t) (hq : q → q') : s.Desk q' t :=
  ⟨h.rest, h.taken, h.run, h.mode, h.profile, h.counters.imp id (.imp id hq)⟩

/-- A change of the profile table that keeps its entries clamped, outside a run or of the pointer alone. -/
theorem verdicts (s : State) (v : VerdictUnit)
    (hv : s.inRun = true → v.profile = s.verdicts.profile)
    (hp : s.ProfileLaw → ∀ b : Fin 16, (v.profile.get b).amin.toNat ≤ (v.profile.get b).amax.toNat) :
    s.Desk q { s with verdicts := v } :=
  ⟨rfl, rfl, fun hr => ⟨rfl, hv hr⟩, .inl rfl, hp, .inl rfl⟩

end State.Desk

theorem State.not_inRun_of_standby {s : State} (h : s.ctl.mode = .standby) : s.inRun = false := by
  simp [State.inRun, h, Mode.inRun]

theorem State.not_inRun_of_loading {s : State} (h : s.ctl.mode = .loading) : s.inRun = false := by
  simp [State.inRun, h, Mode.inRun]

theorem State.standby_elim {s : State} {p : Prop} (h : s.ctl.mode = .standby) (hr : s.inRun = true) : p := by
  rw [s.not_inRun_of_standby h] at hr; cases hr

theorem State.loading_elim {s : State} {p : Prop} (h : s.ctl.mode = .loading) (hr : s.inRun = true) : p := by
  rw [s.not_inRun_of_loading h] at hr; cases hr

/-- The entry that a data write commits is clamped (R138). -/
theorem VerdictUnit.committed_clamped (v : Byte) (u : VerdictUnit) :
    (u.committed v).amin.toNat ≤ (u.committed v).amax.toNat := by
  unfold VerdictUnit.committed byteMax
  dsimp only
  split <;> omega

/-- A data write keeps every entry of the profile clamped (R138). -/
theorem VerdictUnit.writeData_clamped {u : VerdictUnit} (v : Byte)
    (h : ∀ b : Fin 16, (u.profile.get b).amin.toNat ≤ (u.profile.get b).amax.toNat) (b : Fin 16) :
    ((u.writeData v).profile.get b).amin.toNat ≤ ((u.writeData v).profile.get b).amax.toNat := by
  unfold VerdictUnit.writeData
  split
  · exact h b
  · exact h b
  · by_cases hb : u.band = b
    · subst hb
      rw [vec_get_set_same]
      exact u.committed_clamped v
    · rw [vec_get_set_other _ _ _ _ hb]
      exact h b

theorem profileZero_clamped (b : Fin 16) :
    (VerdictUnit.zero.profile.get b).amin.toNat ≤ (VerdictUnit.zero.profile.get b).amax.toNat := by
  revert b
  decide

/-- An accepted data byte keeps to the desk, and clears the counters at item 0x40 with 1 alone. -/
theorem State.acceptData_desk {s t : State} {item value : Byte} (h : s.acceptData? item value = some t) :
    s.Desk (item.toNat = 0x40 ∧ value = 1) t := by
  unfold State.acceptData? at h
  split at h
  · cases h
  · split at h
    · split at h <;> cases h
      exact .verdicts s _ (fun _ => rfl) id
    · split at h <;> cases h
      rename_i hm
      exact .verdicts s _ (State.standby_elim hm) fun hp => VerdictUnit.writeData_clamped value hp
    · rename_i hi
      split at h
      · cases h
        rename_i hv
        exact ⟨rfl, rfl, fun _ => ⟨rfl, rfl⟩, .inl rfl, id, .inr ⟨rfl, hi, hv⟩⟩
      · split at h <;> cases h
        rename_i hv
        exact ⟨rfl, rfl, State.standby_elim hv.2, .inr (.inl ⟨hv.2, rfl⟩), fun _ => profileZero_clamped, .inl rfl⟩
    · split at h <;> cases h
      exact (State.Desk.refl s).port _
    · cases h
      exact (State.Desk.refl s).port _
    · cases h
      exact (State.Desk.refl s).port _
    · split at h
      · split at h <;> cases h
        rename_i hm
        exact ⟨rfl, rfl, State.standby_elim hm, .inl rfl, id, .inl rfl⟩
      · cases h

theorem State.dataByte_desk (s : State) (value : Byte) :
    s.Desk (s.port.pointer.toNat = 0x40 ∧ value = 1) (s.dataByte value) := by
  unfold State.dataByte
  split
  · rename_i t h
    exact (State.acceptData_desk h).port _
  · exact (State.Desk.refl s).port _

theorem State.notAddressed_desk {q : Prop} (s : State) : s.Desk q s.notAddressed := (State.Desk.refl s).port _

theorem State.beginWrite_desk {q : Prop} (s : State) (target : BitVec 7) (item : Byte) :
    s.Desk q (s.beginWrite target item) := by
  unfold State.beginWrite
  split
  · exact (State.Desk.refl s).port _
  · exact s.notAddressed_desk

theorem State.writeItem_desk (s : State) (target : BitVec 7) (item value : Byte) :
    s.Desk (item.toNat = 0x40 ∧ value = 1) (s.writeItem target item value) := by
  unfold State.writeItem
  split
  · rename_i ha
    simp only [State.beginWrite, ha, if_true]
    have hbyte := State.dataByte_desk
      { s with port := { s.port with pointer := item, writing := true, acked := true } } value
    exact hbyte.after_port
  · exact s.notAddressed_desk

/-- A read keeps the profile: it moves the torque pointer and the port. -/
theorem State.readEffect_desk {q : Prop} (s : State) (item : Byte) : s.Desk q (s.readEffect item) := by
  unfold State.readEffect
  split
  · exact .verdicts s _ (fun _ => rfl) id
  · exact (State.Desk.refl s).port _
  · exact (State.Desk.refl s).port _
  · exact (State.Desk.refl s).port _
  · exact State.Desk.refl s

theorem State.readNext_desk {q : Prop} (s : State) (target : BitVec 7) : s.Desk q (s.readNext target) := by
  unfold State.readNext State.readAtPointer
  split
  · exact .after_port ((State.readEffect_desk _ _).port _)
  · exact s.notAddressed_desk

theorem State.readItem_desk {q : Prop} (s : State) (target : BitVec 7) (item : Byte) :
    s.Desk q (s.readItem target item) := by
  unfold State.readItem
  split
  · rename_i ha
    simp only [State.beginWrite, ha, if_true]
    exact .after_port (State.readNext_desk _ _)
  · exact s.notAddressed_desk

/-- Stored autoload bytes change the image and the profile table alone, and keep the profile clamped. -/
theorem State.storeBytes_frame (l : List Byte) (first : Nat) (s : State) :
    State.storeBytes first l s = { s with
        ctl := { s.ctl with image := (State.storeBytes first l s).ctl.image }
        verdicts := (State.storeBytes first l s).verdicts }
      ∧ (s.ProfileLaw → (State.storeBytes first l s).ProfileLaw) := by
  induction l generalizing first s with
  | nil => exact ⟨rfl, id⟩
  | cons v rest ih =>
    obtain ⟨hframe, hprofile⟩ := ih (first + 1) (s.storeByte first v)
    have hone : s.storeByte first v = { s with
          ctl := { s.ctl with image := (s.storeByte first v).ctl.image }
          verdicts := (s.storeByte first v).verdicts }
        ∧ (s.ProfileLaw → (s.storeByte first v).ProfileLaw) := by
      unfold State.storeByte
      split
      · exact ⟨rfl, id⟩
      · exact ⟨rfl, VerdictUnit.writeData_clamped v⟩
    refine ⟨?_, hprofile ∘ hone.2⟩
    rw [State.storeBytes, hframe, hone.1]

theorem State.takeBlock_desk {q : Prop} {s : State} (ack : Bool) (data : Vector Byte 9)
    (hm : s.ctl.mode = .loading) : s.Desk q (s.takeBlock ack data) := by
  have hrun {p : Prop} : s.inRun = true → p := State.loading_elim hm
  unfold State.takeBlock
  dsimp only
  split
  · obtain ⟨hframe, hprofile⟩ := State.storeBytes_frame data.toList (9 * s.ctl.loadBlock)
      { s with ctl := { s.ctl with portSilent := false } }
    split
    · refine ⟨?_, ?_, hrun, .inl ?_, hprofile, .inl ?_⟩ <;> rw [hframe]
    · refine ⟨?_, ?_, hrun, .inr (.inr ⟨hm, rfl⟩), hprofile, .inl ?_⟩ <;> rw [hframe] <;> rfl
  · exact ⟨rfl, rfl, hrun, .inr (.inr ⟨hm, rfl⟩), id, .inl rfl⟩

/-! ### The bank line's moves -/

theorem Move.stay (c : Instr) (s : State) : Move c s s := .desk (.refl s)

/-- Whichever of two moves a test picks. -/
theorem Move.ite {c : Instr} {r s t : State} {p : Prop} [Decidable p] (h : p → Move c r s)
    (h' : ¬ p → Move c r t) : Move c r (if p then s else t) := by
  split
  · exact h ‹_›
  · exact h' ‹_›

/-- The line's own change, with one counter raised. -/
theorem Move.lineCount {c : Instr} {s : State} (l : BankLine) (i : Fin 30)
    (hl : s.LineLaw → State.LineLaw { s with line := l }) : Move c s ({ s with line := l }.count i) :=
  .line l _ hl fun j => State.countBy_counters_le s i j 1

theorem Move.lineOnly {c : Instr} {s : State} (l : BankLine)
    (hl : s.LineLaw → State.LineLaw { s with line := l }) : Move c s { s with line := l } :=
  .line l s.counters hl fun _ => le_rfl

/-- A watcher that has not stopped shows that the station is not in FAULT. -/
theorem State.LineLaw.not_fault {s : State} (h : s.LineLaw) (hw : s.line.watcher ≠ .stopped) :
    s.ctl.mode ≠ .fault := fun hf => hw (h.2 hf).2.2

/-- Outside FAULT the line law is the bound on the queue. -/
theorem State.LineLaw.of_queue {s : State} (l : BankLine) (hm : s.ctl.mode ≠ .fault)
    (hq : s.line.queue.length ≤ 8 → l.queue.length ≤ 8) (h : s.LineLaw) : State.LineLaw { s with line := l } :=
  ⟨hq h.1, fun hf => absurd hf hm⟩

theorem State.ne_fault_of_inRun {s : State} (h : s.inRun = true) : s.ctl.mode ≠ .fault := fun hf => by
  simp [State.inRun, hf, Mode.inRun] at h

/-- A judged frame, with the line as the frame has left it. -/
theorem Move.takeFrame {c : Instr} {s : State} (l : BankLine) (hm : s.ctl.mode ≠ .fault)
    (hq : l.queue = s.line.queue) (f : RxFrame) : Move c s ({ s with line := l }.takeFrame f) := by
  have hlen : s.line.queue.length ≤ 8 → l.queue.length ≤ 8 := by rw [hq]; exact id
  have hlaw := State.LineLaw.of_queue l hm hlen
  unfold State.takeFrame
  refine .ite (fun hr => ?_) fun _ => .lineOnly l hlaw
  refine .ite (fun _ => .fault l s.pins _ (.inl hr)) fun ho => ?_
  refine .ite (fun _ => .lineCount l _ hlaw) fun _ => ?_
  exact .ite (fun _ => .work hr (.frame l hlen f (by simpa using ho))) fun _ => .work hr (.skewed l hlen _)

theorem Move.badFrame {c : Instr} {s : State} (l : BankLine) (hm : s.ctl.mode ≠ .fault)
    (hq : l.queue = s.line.queue) :
    Move c s (if { s with line := l }.inRun then { s with line := l }.count ctrBadFrames
      else { s with line := l }) := by
  have hlaw := State.LineLaw.of_queue l hm (by rw [hq]; exact id)
  exact .ite (fun _ => .lineCount l _ hlaw) fun _ => .lineOnly l hlaw

theorem Move.takeKind {c : Instr} {s : State} (k : BitVec 4) (kind : Kind) (jar : Word) (a b : Byte) :
    Move c s (s.takeKind k kind jar a b) := by
  cases hr : s.inRun with
  | false => rw [s.takeKind_idle k kind jar a b hr]; exact .stay c s
  | true =>
    have hm := s.ne_fault_of_inRun hr
    unfold State.takeKind
    split
    · exact .takeFrame s.line hm rfl _
    · exact .badFrame s.line hm rfl

theorem Move.judgeFrame {c : Instr} {s : State} (l : BankLine) (hm : s.ctl.mode ≠ .fault)
    (hq : l.queue = s.line.queue) (bytes : FrameBytes) :
    Move c s ({ s with line := l }.judgeFrame bytes) := by
  unfold State.judgeFrame
  split
  · exact .takeFrame l hm hq _
  · exact .badFrame l hm hq

theorem Move.attemptSend {c : Instr} {s : State} (elapsed : Nat) : Move c s (s.attemptSend elapsed) := by
  unfold State.attemptSend
  refine .ite (fun _ => .stay c s) fun hno => ?_
  have hm : s.ctl.mode ≠ .fault := fun hf => hno (.inl hf)
  split
  · exact .lineOnly _ (.of_queue _ hm id)
  · exact .ite (fun _ => .lineOnly _ (.of_queue _ hm id)) fun _ => .lineOnly _ (.of_queue _ hm id)

/-- With a frame on the line the station is not in FAULT. -/
theorem State.LineLaw.not_fault_of_sending {s : State} {x : Sending} (h : s.LineLaw)
    (hx : s.line.sending = some x) : s.ctl.mode ≠ .fault := fun hf => by
  have hs := (h.2 hf).2.1
  rw [hx] at hs
  cases hs

/-- A change of the line while a frame is on it: the line law is the bound on the queue. -/
theorem State.LineLaw.of_sending {s : State} {x : Sending} (l : BankLine) (hx : s.line.sending = some x)
    (hq : s.line.queue.length ≤ 8 → l.queue.length ≤ 8) (h : s.LineLaw) : State.LineLaw { s with line := l } :=
  h.of_queue l (h.not_fault_of_sending hx) hq

theorem BankLine.dropHead_length (l : BankLine) : l.dropHead.queue.length ≤ l.queue.length := by
  simp [BankLine.dropHead]

theorem Move.completeSend {c : Instr} {s : State} : Move c s s.completeSend := by
  unfold State.completeSend
  split
  · exact .stay c s
  · rename_i x hx
    have hq : s.line.queue.length ≤ 8 → (if x.detached
          then { s.line with sending := none, watcher := .ready, quiet := 0 }
          else { s.line with sending := none, watcher := .ready, quiet := 0 }.dropHead).queue.length ≤ 8 := by
      intro h
      split
      · exact h
      · exact (BankLine.dropHead_length _).trans h
    refine .ite (fun hr => ?_) fun _ => .lineCount _ _ (.of_sending _ hx hq)
    simp only [Bool.and_eq_true] at hr
    exact .work hr.1 (.sent _ hq _)

theorem State.afterCollision_line (x : Sending) (s : State) :
    ∃ l : BankLine, l.queue.length ≤ s.line.queue.length
      ∧ (s.afterCollision x = { s with line := l } ∨ ∃ i, s.afterCollision x = { s with line := l }.count i) := by
  have hdrop := s.line.dropHead_length
  unfold State.afterCollision
  split
  · exact ⟨_, hdrop, .inr ⟨_, rfl⟩⟩
  · split
    · exact ⟨_, hdrop, .inl rfl⟩
    · split
      · exact ⟨s.line, le_rfl, .inl rfl⟩
      · split
        · exact ⟨_, hdrop, .inr ⟨_, rfl⟩⟩
        · exact ⟨s.line, le_rfl, .inl rfl⟩

theorem Move.collide {c : Instr} {s : State} : Move c s s.collide := by
  unfold State.collide
  split
  · exact .stay c s
  · rename_i x hx
    refine .ite (fun _ => .lineCount _ _ (.of_sending _ hx id)) fun _ => ?_
    obtain ⟨l, hl, h | ⟨i, h⟩⟩ := State.afterCollision_line x
      { s with
        line := { s.line with sending := none, retries := countTo 255 s.line.retries }
        counters := (s.count ctrCollisions).counters }
    · refine Eq.subst (motive := Move c s) h.symm ?_
      exact .line l _ (.of_sending _ hx hl.trans) fun j => s.countBy_counters_le _ j 1
    · refine Eq.subst (motive := Move c s) h.symm ?_
      exact .line l _ (.of_sending _ hx hl.trans) fun j =>
        (s.countBy_counters_le ctrCollisions j 1).trans (State.countBy_counters_le _ i j 1)

theorem Move.abandonFrame {c : Instr} {s : State} (quiet : Nat) (hw : s.line.watcher = .assembling) :
    Move c s (s.abandonFrame quiet) := by
  have hlaw (h : s.LineLaw) :
      State.LineLaw { s with line := { s.line with watcher := .waiting, quiet := quiet } } :=
    h.of_queue _ (h.not_fault (by simp [hw])) id
  unfold State.abandonFrame
  exact .ite (fun _ => .lineCount _ _ hlaw) fun _ => .lineOnly _ hlaw

theorem BankLine.startFrame_frame (elapsed : Nat) (l : BankLine) :
    (l.startFrame elapsed).queue = l.queue
      ∧ (l.watcher = .stopped → l.startFrame elapsed = l) := by
  unfold BankLine.startFrame
  split <;> simp_all

theorem Move.frameStart {c : Instr} {s : State} (elapsed : Nat) :
    Move c s { s with line := s.line.startFrame elapsed } := by
  obtain ⟨hqueue, hstop⟩ := s.line.startFrame_frame elapsed
  refine .lineOnly _ fun h => ⟨?_, fun hf => ?_⟩
  · simpa [hqueue] using h.1
  · have hsilent := h.2 hf
    simpa [hstop hsilent.2.2] using hsilent

/-! ### Line time -/

/-- An up step counts C toward H, or both, and may strobe (R3, R5). -/
theorem Move.encoderSample {c : Instr} {s : State} (pair : EncPair) (pins : StrobePins) :
    Move c s (s.encoderSample pair pins) := by
  have hkeep (ha : s.AllowanceLaw) (hr : s.inRun = true) : (s.clk.h - s.clk.c).toNat ≤ s.cfg.allowance := ha hr
  have hboth (ha : s.AllowanceLaw) (hr : s.inRun = true) :
      (s.clk.h + 1 - (s.clk.c + 1)).toNat ≤ s.cfg.allowance := by
    rw [show s.clk.h + 1 - (s.clk.c + 1) = s.clk.h - s.clk.c by bv_omega]; exact ha hr
  have hrecover (hne : s.clk.c ≠ s.clk.h) (ha : s.AllowanceLaw) (hr : s.inRun = true) :
      (s.clk.h - (s.clk.c + 1)).toNat ≤ s.cfg.allowance := by
    have := ha hr; bv_omega
  unfold State.encoderSample
  refine .ite (fun hr => ?_) fun _ => .clock _ rfl hkeep
  split
  · unfold State.upStep
    refine .ite (fun _ => ?_) fun hne => .clock _ rfl (hrecover hne)
    exact .ite (fun _ => .strobe _ pins hr rfl hboth) fun _ => .clock _ rfl hboth
  · unfold State.downStep
    refine .ite (fun _ => .stop _ s.pins _ hr) fun hle => .clock _ rfl fun _ _ => ?_
    exact Nat.le_of_not_lt hle
  · exact .clock _ rfl hkeep

/-! ### Every command makes a move -/

theorem Move.startAttempt {c : Instr} {s : State} (p : Pins) (cap : Bool) (hj : p.jam = s.pins.jam) :
    Move c s ({ s with pins := p }.startAttempt cap) := by
  unfold State.startAttempt
  split
  · rename_i hm
    have hrun {q : Prop} : s.inRun = true → q := State.standby_elim hm
    refine .ite (fun _ => .fault s.line p _ (.inr hm)) fun _ => .ite (fun hs => ?_) fun _ =>
      .desk ⟨rfl, rfl, hrun, .inl rfl, id, .inl rfl⟩
    exact .ite (fun hjam => .startJam p cap hm hs (hj ▸ hjam)) fun _ => .start p cap hm hs
  all_goals exact .desk (.pins s p)

theorem Move.takeFaultInput {c : Instr} {s : State} (input : FaultInput) (level : Bool) :
    Move c s (s.takeFaultInput input level) := by
  unfold State.takeFaultInput
  exact .ite (fun h => .giveUp _ input h.2) fun _ => .desk (.pins s _)

/-- What `exec` answers, it answers with a next state that is a move of the station. -/
theorem Move.of_exec {c : Instr} {s t : State} (h : exec c s = .next t) : Move c s t := by
  cases c with
  | powerUp straps pair => cases h; exact .power straps pair (.inl rfl)
  | resetPin straps pair => cases h; exact .power straps pair (.inr rfl)
  | autoloadBlock ack data =>
    cases h; exact .ite (fun hm => .desk (State.takeBlock_desk ack data hm)) fun _ => .stay _ s
  | encoderStep pair pins => cases h; exact .encoderSample pair pins
  | pitchStrobe pins =>
    cases h; exact .ite (fun hr => .strobe s.clk pins hr rfl fun ha => ha) fun _ => .stay _ s
  | lapse jar => cases h; exact .ite (fun hr => .work hr (.lapse jar)) fun _ => .stay _ s
  | valveClose =>
    cases h; exact .ite (fun hc => .work (s.inRun_of_run hc.1) .valve) fun _ => .stay _ s
  | torqueSample tau =>
    cases h; exact .ite (fun hm => .work (s.inRun_of_run hm) (.sample tau)) fun _ => .stay _ s
  | angleStep => cases h; exact .ite (fun hm => .work (s.inRun_of_run hm) .angle) fun _ => .stay _ s
  | driveExpiry =>
    cases h
    exact .ite (fun ⟨hm, hc, _, hd⟩ => .work (s.inRun_of_run hm) (.expiry hc hd)) fun _ => .stay _ s
  | returnEnd => cases h; exact .ite (fun ⟨hr, hc, _⟩ => .work hr (.returned hc)) fun _ => .stay _ s
  | drawEnd station => cases h; exact .ite (fun hr => .work hr (.draws _)) fun _ => .stay _ s
  | sendAttempt elapsed => cases h; exact .attemptSend elapsed
  | sendComplete => cases h; exact .completeSend
  | collision => cases h; exact .collide
  | frameReceived bytes =>
    cases h; exact .ite (fun ⟨hm, _, _⟩ => .judgeFrame _ hm (by rfl) bytes) fun _ => .stay _ s
  | frameAbandoned elapsed =>
    cases h; exact .ite (fun ⟨hw, _, _⟩ => .abandonFrame _ hw) fun _ => .stay _ s
  | helloTaken sender jar a b => cases h; exact .takeKind sender .hello jar a b
  | claimTaken sender jar a b => cases h; exact .takeKind sender .claim jar a b
  | releaseTaken sender jar => cases h; exact .takeKind sender .release jar 0 0
  | doneTaken sender jar a b => cases h; exact .takeKind sender .done jar a b
  | steamTaken sender jar a b => cases h; exact .takeKind sender .steam jar a b
  | withdrawTaken sender a => cases h; exact .takeKind sender .withdraw 0 a 0
  | startAttempt cap => cases h; exact .startAttempt _ cap rfl
  | runStop =>
    cases h; exact .ite (fun hr => .stop s.clk _ _ hr) fun _ => .desk (.pins s _)
  | headFaultJam input level => cases h; exact .takeFaultInput input level
  | capLow level => cases h; exact .desk (.pins s _)
  | itemNumberWrite target item => cases h; exact .desk (s.beginWrite_desk target item)
  | serviceWrite value =>
    cases h
    refine .ite (fun _ => .desk ((s.dataByte_desk value).mono fun hv => .inr ?_)) fun _ => .stay _ s
    rw [hv.2]
  | torquePointerWrite target value =>
    cases h; exact .desk ((s.writeItem_desk target 0x38 value).mono fun hv => by simp at hv)
  | torqueDataWrite target value =>
    cases h; exact .desk ((s.writeItem_desk target 0x39 value).mono fun hv => by simp at hv)
  | torqueDataRead target => cases h; exact .desk (s.readItem_desk target 0x39)
  | highByteRead target => cases h; exact .desk (s.readNext_desk target)
  | clear target => cases h; exact .desk ((s.writeItem_desk target 0x40 1).mono fun _ => .inl ⟨target, rfl⟩)
  | reload target => cases h; exact .desk ((s.writeItem_desk target 0x40 2).mono fun hv => by simp at hv)
  | peerViewSelect target value =>
    cases h; exact .desk ((s.writeItem_desk target 0xC0 value).mono fun hv => by simp at hv)
  | snapshotRequest target value =>
    cases h; exact .desk ((s.writeItem_desk target 0xC4 value).mono fun hv => by simp at hv)
  | gateQueueViewRequest target value =>
    cases h; exact .desk ((s.writeItem_desk target 0xC6 value).mono fun hv => by simp at hv)
  | viewDataRead target view => cases h; exact .desk (s.readItem_desk target _)
  | malformedFrame => cases h; exact .ite (fun ⟨hw, _⟩ => .abandonFrame 0 hw) fun _ => .stay _ s
  | frameStart elapsed => cases h; exact .frameStart elapsed

/-- A step is a move of the state without the command at its front, or no move at all. -/
theorem step_cases {s t : State} (h : step s = .next t) :
    t = s ∨ ∃ c rest, s.pending = c :: rest ∧ Move c { s with pending := rest } t := by
  unfold step at h
  split at h
  · cases h; exact .inl rfl
  · rename_i c rest hp
    exact .inr ⟨c, rest, hp, Move.of_exec h⟩

end Sys2Proof.Machine
end


section
/-! PROOF. The laws that hold move by move: the verdicts, the holds, the track, the gate, the lapse counts, the
counters, the station states, and the laws of an idle station. -/

namespace Sys2Proof.Machine

variable (s : State)

/-! ### The ends and the start of a run, field by field -/

@[simp] theorem State.abortCycle_head : s.abortCycle.head = Head.idle s.head.plan := rfl

theorem State.abortCycle_frame :
    s.abortCycle = { s with head := Head.idle s.head.plan, counters := s.abortCycle.counters } := by
  unfold State.abortCycle
  dsimp only
  split <;> rfl

/-- A purge leaves nothing of the run, and the rest of the station as it stands (R37, R67, R124, R133, R162). -/
theorem State.purgeRun_frame :
    s.purgeRun = { s with
      track := [], claims := ⟨0, 0⟩, head := Head.idle s.head.plan
      steam := { s.steam with draws := [] }, gate := ⟨[], false, .pass⟩
      counters := s.abortCycle.counters } := by
  unfold State.purgeRun
  rw [State.abortCycle_frame]

theorem State.runStop_frame (cause : StopCause) :
    s.runStop cause = { s with
      ctl := { s.ctl with mode := .standby, stopCause := cause, withdrawReason := none }
      track := [], claims := ⟨0, 0⟩, head := Head.idle s.head.plan
      steam := { s.steam with draws := [] }, gate := ⟨[], false, .pass⟩
      line := s.line.withdrawFrames prunedAtStop
      counters := s.abortCycle.counters } := by
  unfold State.runStop
  rw [State.purgeRun_frame]

theorem State.enterFault_frame (cause : FaultCause) :
    s.enterFault cause = { s with
      ctl := { s.ctl with mode := .fault, faultCause := some cause, withdrawReason := none }
      track := [], claims := ⟨0, 0⟩, head := Head.idle s.head.plan
      steam := { s.steam with draws := [] }, gate := ⟨[], false, .pass⟩
      line := ⟨[], none, 0, .stopped, 0⟩
      counters := s.abortCycle.counters } := by
  unfold State.enterFault
  rw [State.purgeRun_frame]

theorem State.abortCycle_counters_le (i : Fin 30) :
    (s.counters.get i).toNat ≤ (s.abortCycle.counters.get i).toNat := by
  unfold State.abortCycle
  dsimp only
  split
  · exact s.countBy_counters_le _ i 1
  · exact le_rfl

/-- START queues its HELLO alone, and takes every block's run state anew (R170). -/
theorem State.start_frame (cap : Bool) :
    s.start cap = { s with
      ctl := { s.ctl with
        mode := .run, taken := s.ctl.image, startRefused := 0, stopCause := .noStop, withdrawReason := none }
      clk := { s.clk with c := 0, h := 0, n := 0 }
      track := [], claims := ⟨0, busyAtStart s.ctl.image cap⟩, peers := PeerTable.clear
      head := headAtStart s.ctl.image cap, steam := ⟨[], 0, false⟩, gate := ⟨[], false, .pass⟩
      line := { s.line.atStart with queue := [helloFrame s.ctl.image] } } := by
  unfold State.start
  rw [State.enqueue_room _ _ (by simp [BankLine.atStart])]
  rfl

theorem headAtStart_plan (i : Image) (cap : Bool) : (headAtStart i cap).plan = planOf i := by
  unfold headAtStart
  dsimp only
  split <;> rfl

/-- A withdrawal gives the own claims back, and then queues the WITHDRAW in the new state (R66, R172). -/
theorem State.withdraw_edits (why : FaultInput) :
    Edits true s s.giveBackClaims
      ∧ Edits true
          { s.giveBackClaims with ctl := { s.ctl with mode := .withdrawn, withdrawReason := some why } }
          (s.withdraw why) :=
  ⟨Edits.refl.giveBackClaims, Edits.refl.enqueue _⟩

/-- A law that every edit keeps, and that does not read the station state, stands through a withdrawal. -/
theorem State.withdraw_keeps {P : State → Prop} (hedit : ∀ {u v : State}, Edits true u v → P u → P v)
    (hctl : ∀ (u : State) (why : FaultInput), P u →
      P { u with ctl := { u.ctl with mode := .withdrawn, withdrawReason := some why } })
    (why : FaultInput) (h : P s) : P (s.withdraw why) := by
  obtain ⟨hback, hqueue⟩ := s.withdraw_edits why
  exact hedit hqueue (hctl _ why (hedit hback h))

theorem State.withdraw_ctl (why : FaultInput) :
    (s.withdraw why).ctl = { s.ctl with mode := .withdrawn, withdrawReason := some why } :=
  (s.withdraw_edits why).2.standing.ctl

theorem State.withdraw_clk (why : FaultInput) : (s.withdraw why).clk = s.clk :=
  (s.withdraw_edits why).2.standing.clk

theorem State.withdraw_plan (why : FaultInput) : (s.withdraw why).head.plan = s.head.plan :=
  (s.withdraw_edits why).2.standing.plan

theorem State.withdraw_verdicts (why : FaultInput) : (s.withdraw why).verdicts = s.verdicts :=
  (s.withdraw_edits why).2.standing.verdicts

/-- A withdrawal with no record in the track leaves none. -/
theorem State.withdraw_track_nil (why : FaultInput) (h : s.track = []) : (s.withdraw why).track = [] := by
  obtain ⟨-, hqueue⟩ := s.withdraw_edits why
  have hp := hqueue.pitches
  simp only [State.giveBackClaims, h, List.map_nil, List.map_eq_nil_iff] at hp
  exact hp

theorem State.giveUpCycle_standing : s.Standing s.giveUpCycle := (Edits.refl (b := true)).giveUpCycle.standing

variable {s} {t : State} {c : Instr}

/-! ### The state after a strobe -/

theorem State.strobe_ctl (pins : StrobePins) : (s.strobe pins).ctl = s.ctl := by
  rw [(Edits.strobe s pins).standing.ctl, State.sighted_frame]

theorem State.strobe_clk (pins : StrobePins) : (s.strobe pins).clk = { s.clk with n := s.clk.n + 1 } := by
  rw [(Edits.strobe s pins).standing.clk, State.sighted_frame]

theorem State.strobe_plan (pins : StrobePins) : (s.strobe pins).head.plan = s.head.plan := by
  rw [(Edits.strobe s pins).standing.plan, State.sighted_frame]

theorem State.strobe_verdicts (pins : StrobePins) : (s.strobe pins).verdicts = s.verdicts := by
  rw [(Edits.strobe s pins).standing.verdicts, State.sighted_frame]

theorem State.strobe_inRun (pins : StrobePins) : (s.strobe pins).inRun = s.inRun :=
  congrArg (fun x => x.mode.inRun) (State.strobe_ctl pins)

/-! ### Verdicts and flags (O51) -/

/-- After any move, a record at a pitch that had a record follows it. -/
theorem Move.follows (h : Move c s t) (ht : s.TrackLaw) :
    ∀ j ∈ s.track, ∀ j' ∈ t.track, j'.pitch = j.pitch → j.Follows j' := by
  have of_edits {u : State} (hu : u.track = s.track) (he : Edits true u t) :
      ∀ j ∈ s.track, ∀ j' ∈ t.track, j'.pitch = j.pitch → j.Follows j' := by
    intro j hj j' hj' hp
    obtain ⟨x, hx, hf⟩ := he.follows j' hj'
    rw [hu] at hx
    rwa [ht.unique hj hx (hp.symm.trans hf.pitch)]
  have of_same (hu : t.track = s.track) := of_edits hu .refl
  have of_nil (hnil : t.track = []) : ∀ j ∈ s.track, ∀ j' ∈ t.track, j'.pitch = j.pitch → j.Follows j' := by
    intro j _ j' hj'
    rw [hnil] at hj'
    cases hj'
  cases h with
  | power straps pair hc => exact of_nil rfl
  | desk h => exact of_same (by rw [h.rest])
  | line l k hl hk => exact of_same rfl
  | clock x hn ha => exact of_same rfl
  | strobe x pins hr hn ha =>
    intro j hj j' hj' hp
    obtain ⟨y, hy, hf⟩ := (Edits.strobe { s with clk := x } pins).follows j' hj'
    rw [State.sighted_frame] at hy
    have hpy : y.pitch = j.pitch := hf.pitch.symm.trans hp
    rcases List.mem_append.mp hy with hy | hy
    · rwa [ht.unique hj (List.mem_filter.mp hy).1 hpy.symm]
    · split at hy
      · obtain rfl := List.mem_singleton.mp hy
        refine absurd ?_ (ht.lacks_next j hj)
        rw [← hpy, ← hn]
        rfl
      · simp at hy
  | work hr h => exact of_edits rfl h.edits
  | stop x p cause hr => exact of_nil (by rw [State.runStop_frame])
  | fault l p cause hm => exact of_nil (by rw [State.enterFault_frame])
  | start p cap hm hs => exact of_nil (by rw [State.start_frame])
  | startJam p cap hm hs hj => exact of_nil (State.withdraw_track_nil _ _ (by rw [State.start_frame]))
  | giveUp p why hm =>
    obtain ⟨hback, hqueue⟩ := ({ s with pins := p }.giveUpCycle).withdraw_edits why
    have hup : Edits true { s with pins := p } ({ s with pins := p }.giveUpCycle).giveBackClaims :=
      (Edits.refl.giveUpCycle).trans hback
    intro j hj j' hj' hp
    obtain ⟨x, hx, hf⟩ := hqueue.follows j' hj'
    obtain ⟨y, hy, hf'⟩ := hup.follows x hx
    have hfj := hf'.trans hf
    rwa [ht.unique hj hy (hp.symm.trans hfj.pitch)]

/-! ### Records held (O54) -/

theorem State.HeldLaw.of_nil (h : t.track = []) : t.HeldLaw := by
  intro j hj
  rw [h] at hj
  cases hj

theorem Move.heldLaw (h : Move c s t) (hs : s.HeldLaw) : t.HeldLaw := by
  cases h with
  | power straps pair hc => exact .of_nil rfl
  | desk h => rw [h.rest]; exact hs
  | line l k hl hk => exact hs
  | clock x hn ha => exact hs
  | strobe x pins hr hn ha =>
    refine (Edits.strobe { s with clk := x } pins).heldLaw ?_
    rw [State.sighted_frame]
    intro j hj k hk
    rcases List.mem_append.mp hj with hj | hj
    · exact hs j (List.mem_filter.mp hj).1 k hk
    · split at hj
      · obtain rfl := List.mem_singleton.mp hj
        cases hk
      · simp at hj
  | work hr h => exact h.edits.heldLaw hs
  | stop x p cause hr => exact .of_nil (by rw [State.runStop_frame])
  | fault l p cause hm => exact .of_nil (by rw [State.enterFault_frame])
  | start p cap hm hs => exact .of_nil (by rw [State.start_frame])
  | startJam p cap hm hs hj => exact .of_nil (State.withdraw_track_nil _ _ (by rw [State.start_frame]))
  | giveUp p why hm =>
    have hup : ({ s with pins := p }.giveUpCycle).HeldLaw := (Edits.refl (b := true)).giveUpCycle.heldLaw hs
    exact State.withdraw_keeps _ Edits.heldLaw (fun _ _ h => h) why hup

/-! ### The track (O56) -/

theorem State.TrackLaw.of_nil (h : t.track = []) : t.TrackLaw := by
  unfold State.TrackLaw
  rw [h]
  exact ⟨.nil, fun j hj => by cases hj⟩

theorem Move.trackLaw (h : Move c s t) (hc : s.ConfigLaw) (hs : s.TrackLaw) : t.TrackLaw := by
  cases h with
  | power straps pair hc => exact .of_nil rfl
  | desk h => exact hs.of_pitches (by rw [h.rest]) (by rw [h.rest]) h.taken
  | line l k hl hk => exact hs
  | clock x hn ha => exact hs.of_pitches rfl hn rfl
  | strobe x pins hr hn ha =>
    have hx : State.TrackLaw { s with clk := x } := hs.of_pitches rfl hn rfl
    exact hx.strobe (hc.fit hr) pins
  | work hr h => exact h.edits.trackLaw hs
  | stop x p cause hr => exact .of_nil (by rw [State.runStop_frame])
  | fault l p cause hm => exact .of_nil (by rw [State.enterFault_frame])
  | start p cap hm hs => exact .of_nil (by rw [State.start_frame])
  | startJam p cap hm hs hj => exact .of_nil (State.withdraw_track_nil _ _ (by rw [State.start_frame]))
  | giveUp p why hm =>
    have hup : ({ s with pins := p }.giveUpCycle).TrackLaw := (Edits.refl (b := true)).giveUpCycle.trackLaw hs
    exact State.withdraw_keeps _ Edits.trackLaw (fun _ _ h => h) why hup

/-! ### The gate queue (O59) -/

theorem State.GateLaw.of_empty (h : t.gate = ⟨[], false, .pass⟩) : t.GateLaw := by
  unfold State.GateLaw
  simp [h]

theorem Move.gateLaw (h : Move c s t) (hc : s.ConfigLaw) (ht : s.TrackLaw) (hs : s.GateLaw) : t.GateLaw := by
  cases h with
  | power straps pair hc => exact .of_empty rfl
  | desk h => exact hs.congr (by rw [h.rest]) (by rw [h.rest]) h.taken
  | line l k hl hk => exact hs
  | clock x hn ha => exact hs.congr rfl hn rfl
  | strobe x pins hr hn ha =>
    have hx : State.TrackLaw { s with clk := x } := ht.of_pitches rfl hn rfl
    have hg : State.GateLaw { s with clk := x } := hs.congr rfl hn rfl
    exact hg.strobe hx (hc.fit hr) pins
  | work hr h => exact h.edits.gateLaw (hc.fit hr) ht hs
  | stop x p cause hr => exact .of_empty (by rw [State.runStop_frame])
  | fault l p cause hm => exact .of_empty (by rw [State.enterFault_frame])
  | start p cap hm hs => exact .of_empty (by rw [State.start_frame])
  | startJam p cap hm hs hj =>
    refine .of_empty ?_
    simp only [State.withdraw, State.enqueue_gate, State.giveBackClaims_gate]
    rw [State.start_frame]
  | giveUp p why hm =>
    have hf : s.cfg.Fit := hc.fit (s.inRun_of_run hm)
    have hup : ({ s with pins := p }.giveUpCycle).GateLaw :=
      (Edits.refl (b := true)).giveUpCycle.gateLaw hf ht hs
    refine hup.congr ?_ ?_ ?_
    · simp [State.withdraw]
    · rw [State.withdraw_clk]
    · simp [State.cfg, State.withdraw_ctl]

end Sys2Proof.Machine
end


section
/-! PROOF. The settings and lapse counts, the allowance, the counters, the station states and the laws of an
idle station, move by move; and the obligations that rest on the moves alone. -/

namespace Sys2Proof.Machine

variable {s t : State} {c : Instr}

/-! ### Which moves stay in a run, and what they keep of its settings -/

/-- A move into a run is a START; a move within one keeps settings, plan, image and profile (R104, R164). -/
theorem Move.run_settings (h : Move c s t) (hr : t.inRun = true) :
    (s.inRun = true ∧ t.ctl.image = s.ctl.image ∧ t.cfg = s.cfg ∧ t.verdicts.profile = s.verdicts.profile
        ∧ t.head.plan = s.head.plan)
      ∨ (s.ctl.mode = .standby ∧ startCheck t.cfg = 0 ∧ t.head.plan = planOf t.cfg) := by
  cases h with
  | power straps pair hc =>
    simp only [State.inRun, State.powerUpValues] at hr
    split at hr <;> cases hr
  | desk h =>
    have hmode : s.inRun = true := by
      rcases h.mode with hm | ⟨-, hm⟩ | ⟨-, hm⟩
      · rwa [State.inRun, hm] at hr
      · exact State.loading_elim hm hr
      · exact State.standby_elim hm hr
    obtain ⟨hctl, hprofile⟩ := h.run hmode
    exact .inl ⟨hmode, by rw [hctl], h.taken, hprofile, by rw [h.rest]⟩
  | line l k hl hk => exact .inl ⟨hr, rfl, rfl, rfl, rfl⟩
  | clock x hn ha => exact .inl ⟨hr, rfl, rfl, rfl, rfl⟩
  | strobe x pins hrun hn ha =>
    refine .inl ⟨hrun, ?_, ?_, ?_, ?_⟩
    · rw [State.strobe_ctl]
    · rw [State.cfg, State.strobe_ctl]
    · rw [State.strobe_verdicts]
    · rw [State.strobe_plan]
  | work hrun h =>
    have hstand := h.edits.standing
    exact .inl ⟨hrun, by rw [hstand.ctl], hstand.cfg, by rw [hstand.verdicts], hstand.plan⟩
  | stop x p cause hrun => rw [State.runStop_frame] at hr; cases hr
  | fault l p cause hm => rw [State.enterFault_frame] at hr; cases hr
  | start p cap hm hs =>
    rw [State.start_frame]
    exact .inr ⟨hm, hs, headAtStart_plan _ _⟩
  | startJam p cap hm hs hj =>
    refine .inr ⟨hm, ?_, ?_⟩
    · rw [State.cfg, State.withdraw_ctl, State.start_frame]; exact hs
    · rw [State.withdraw_plan, State.cfg, State.withdraw_ctl, State.start_frame]; exact headAtStart_plan _ _
  | giveUp p why hm =>
    have hstand := ({ s with pins := p } : State).giveUpCycle_standing
    refine .inl ⟨s.inRun_of_run hm, ?_, ?_, ?_, ?_⟩
    · rw [State.withdraw_ctl, hstand.ctl]
    · rw [State.cfg, State.withdraw_ctl, hstand.ctl]
    · rw [State.withdraw_verdicts, hstand.verdicts]
    · rw [State.withdraw_plan, hstand.plan]

theorem Move.configLaw (h : Move c s t) (hs : s.ConfigLaw) : t.ConfigLaw := by
  intro hr
  rcases h.run_settings hr with ⟨hrun, -, hcfg, -, hplan⟩ | ⟨-, hcheck, hplan⟩
  · rw [hcfg, hplan]
    exact hs hrun
  · exact ⟨hcheck, hplan⟩

/-! ### Lapse counts (O55) -/

theorem State.ParkLaw.of_clear (h : t.peers = PeerTable.clear) : t.ParkLaw := by
  intro k
  have hk : t.peer k = Peer.unheard := by
    unfold State.peer
    rw [h]
    revert k
    decide
  rw [hk]
  rfl

theorem State.ParkLaw.congr (hs : s.ParkLaw) (hp : t.peers = s.peers) (hc : t.cfg = s.cfg) : t.ParkLaw := by
  unfold State.ParkLaw State.peer at *
  rwa [hp, hc]

theorem Move.parkLaw (h : Move c s t) (hc : s.ConfigLaw) (hs : s.ParkLaw) : t.ParkLaw := by
  cases h with
  | power straps pair hc => exact .of_clear rfl
  | desk h => exact hs.congr (by rw [h.rest]) h.taken
  | line l k hl hk => exact hs
  | clock x hn ha => exact hs
  | strobe x pins hr hn ha =>
    have hsight : ({ s with clk := x }.sighted pins).ParkLaw := by
      refine hs.congr ?_ ?_ <;> rw [State.sighted_frame]
    refine (Edits.strobe { s with clk := x } pins).parkLaw ?_ hsight
    rw [State.sighted_frame]
    exact (hc.fit hr).park
  | work hr h => exact h.edits.parkLaw (hc.fit hr).park hs
  | stop x p cause hr => exact hs.congr (by rw [State.runStop_frame]) (by rw [State.runStop_frame])
  | fault l p cause hm => exact hs.congr (by rw [State.enterFault_frame]) (by rw [State.enterFault_frame])
  | start p cap hm hs => exact .of_clear (by rw [State.start_frame])
  | startJam p cap hm hs hj =>
    refine .of_clear ?_
    simp only [State.withdraw, State.enqueue_peers, State.giveBackClaims_peers]
    rw [State.start_frame]
  | giveUp p why hm =>
    have hup : ({ s with pins := p }.giveUpCycle).ParkLaw :=
      (Edits.refl (b := true)).giveUpCycle.parkLaw (hc.fit (s.inRun_of_run hm)).park hs
    refine hup.congr ?_ ?_
    · simp only [State.withdraw, State.enqueue_peers, State.giveBackClaims_peers]
    · simp [State.cfg, State.withdraw_ctl]

/-! ### The allowance (O53) -/

theorem Move.allowanceLaw (h : Move c s t) (hs : s.AllowanceLaw) : t.AllowanceLaw := by
  intro hr
  cases h with
  | power straps pair hc =>
    simp only [State.inRun, State.powerUpValues] at hr
    split at hr <;> cases hr
  | desk h =>
    have hmove : Move c s t := .desk h
    rcases hmove.run_settings hr with ⟨hrun, -, hcfg, -⟩ | ⟨hm, -⟩
    · rw [hcfg, h.rest]
      exact hs hrun
    · exfalso
      rcases h.mode with hm' | ⟨-, hm'⟩ | ⟨hm', -⟩
      · exact State.standby_elim (hm'.trans hm) hr
      · exact State.loading_elim hm' hr
      · rw [hm] at hm'; cases hm'
  | line l k hl hk => exact hs hr
  | clock x hn ha => exact ha hs hr
  | strobe x pins hrun hn ha =>
    rw [State.strobe_clk, State.cfg, State.strobe_ctl]
    exact ha hs hrun
  | work hrun h =>
    rw [h.edits.standing.clk, h.edits.standing.cfg]
    exact hs hrun
  | stop x p cause hrun => rw [State.runStop_frame] at hr; cases hr
  | fault l p cause hm => rw [State.enterFault_frame] at hr; cases hr
  | start p cap hm hs => rw [State.start_frame]; simp
  | startJam p cap hm hs hj => rw [State.withdraw_clk, State.start_frame]; simp
  | giveUp p why hm =>
    have hstand := ({ s with pins := p } : State).giveUpCycle_standing
    rw [State.withdraw_clk, State.cfg, State.withdraw_ctl, hstand.clk, hstand.ctl]
    exact hs (s.inRun_of_run hm)

/-! ### Counters (O49) -/

theorem State.withdraw_counters_le (s : State) (why : FaultInput) (i : Fin 30) :
    (s.counters.get i).toNat ≤ ((s.withdraw why).counters.get i).toNat := by
  obtain ⟨hback, hqueue⟩ := s.withdraw_edits why
  exact (hback.counters_le i).trans (hqueue.counters_le i)

theorem State.sighted_counters_le (s : State) (pins : StrobePins) (i : Fin 30) :
    (s.counters.get i).toNat ≤ ((s.sighted pins).counters.get i).toNat := by
  have hgate : (s.counters.get i).toNat ≤ (s.advanceN.gateDecision.counters.get i).toNat := by
    unfold State.gateDecision
    dsimp only
    split
    · split
      · exact State.countBy_counters_le _ _ i 1
      · exact le_rfl
    · exact le_rfl
  have hage (u : State) : (u.counters.get i).toNat ≤ ((u.ageTrack pins).counters.get i).toNat := by
    unfold State.ageTrack
    dsimp only
    split
    · exact State.countBy_counters_le _ _ i 1
    · exact le_rfl
  exact hgate.trans (hage _)

theorem vec_get_replicate {α : Type} {n : Nat} (x : α) (i : Fin n) : (Vector.replicate n x).get i = x := by
  change (Vector.replicate n x)[i.val] = x
  simp

/-- The moves that set the counters to 0, by their commands. -/
theorem Move.counters (h : Move c s t) :
    (∀ i : Fin 30, (s.counters.get i).toNat ≤ (t.counters.get i).toNat)
      ∨ ((∀ i : Fin 30, t.counters.get i = 0)
          ∧ ((∃ (straps : Straps) (pair : EncPair), c = .powerUp straps pair ∨ c = .resetPin straps pair)
            ∨ (∃ target : BitVec 7, c = .clear target) ∨ c = .serviceWrite 1)) := by
  cases h with
  | power straps pair hc => exact .inr ⟨vec_get_replicate 0, .inl ⟨straps, pair, hc⟩⟩
  | desk h =>
    rcases h.counters with hsame | ⟨hzero, hc⟩
    · exact .inl fun i => by rw [hsame]
    · exact .inr ⟨fun i => by rw [hzero, vec_get_replicate], .inr hc⟩
  | line l k hl hk => exact .inl hk
  | clock x hn ha => exact .inl fun _ => le_rfl
  | strobe x pins hr hn ha =>
    exact .inl fun i => (State.sighted_counters_le { s with clk := x } pins i).trans
      ((Edits.strobe _ pins).counters_le i)
  | work hr h => exact .inl h.edits.counters_le
  | stop x p cause hr =>
    exact .inl fun i => by
      rw [State.runStop_frame]; exact State.abortCycle_counters_le { s with clk := x, pins := p } i
  | fault l p cause hm =>
    exact .inl fun i => by
      rw [State.enterFault_frame]; exact State.abortCycle_counters_le { s with line := l, pins := p } i
  | start p cap hm hs => exact .inl fun i => by rw [State.start_frame]
  | startJam p cap hm hs hj =>
    refine .inl fun i => ?_
    have hle := State.withdraw_counters_le ({ s with pins := p }.start cap) .jam i
    rw [State.start_frame] at hle ⊢
    exact hle
  | giveUp p why hm =>
    exact .inl fun i =>
      ((Edits.refl (b := true) (s := { s with pins := p })).giveUpCycle.counters_le i).trans
        (State.withdraw_counters_le _ why i)

/-! ### Station states (O50) -/

/-- Where a move leads from each station state (R167). -/
theorem Move.modes (h : Move c s t) :
    (t.ctl.mode = .run → s.ctl.mode = .run ∨ s.ctl.mode = .standby)
    ∧ (t.ctl.mode = .withdrawn →
        s.ctl.mode = .withdrawn ∨ s.ctl.mode = .run ∨ (s.ctl.mode = .standby ∧ s.pins.jam = true))
    ∧ (s.ctl.mode = .fault → t.ctl.mode = .fault
        ∨ ∃ (straps : Straps) (pair : EncPair), c = .powerUp straps pair ∨ c = .resetPin straps pair)
    ∧ (s.ctl.mode = .loading → t.ctl.mode = .loading ∨ t.ctl.mode = .standby) := by
  have of_same (hm : t.ctl.mode = s.ctl.mode) :
      (t.ctl.mode = .run → s.ctl.mode = .run ∨ s.ctl.mode = .standby)
      ∧ (t.ctl.mode = .withdrawn →
          s.ctl.mode = .withdrawn ∨ s.ctl.mode = .run ∨ (s.ctl.mode = .standby ∧ s.pins.jam = true))
      ∧ (s.ctl.mode = .fault → t.ctl.mode = .fault
          ∨ ∃ (straps : Straps) (pair : EncPair), c = .powerUp straps pair ∨ c = .resetPin straps pair)
      ∧ (s.ctl.mode = .loading → t.ctl.mode = .loading ∨ t.ctl.mode = .standby) := by
    rw [hm]
    exact ⟨.inl, .inl, .inl, .inl⟩
  have run_ne {m : Mode} (hr : s.inRun = true) (hm : m.inRun = false) : s.ctl.mode ≠ m := fun he => by
    rw [State.inRun, he, hm] at hr; cases hr
  cases h with
  | power straps pair hc =>
    have hm : (State.powerUpValues { s.pins with straps := straps } pair s.pending).ctl.mode = .loading
        ∨ (State.powerUpValues { s.pins with straps := straps } pair s.pending).ctl.mode = .standby := by
      cases hd : straps.loadDis <;> simp [State.powerUpValues, hd]
    refine ⟨fun h => ?_, fun h => ?_, fun _ => .inr ⟨straps, pair, hc⟩, fun _ => hm⟩
    · rcases hm with hm | hm <;> rw [hm] at h <;> cases h
    · rcases hm with hm | hm <;> rw [hm] at h <;> cases h
  | desk h =>
    rcases h.mode with hm | ⟨hs, ht⟩ | ⟨hs, ht⟩
    · exact of_same hm
    · simp [hs, ht]
    · simp [hs, ht]
  | line l k hl hk => exact of_same rfl
  | clock x hn ha => exact of_same rfl
  | strobe x pins hr hn ha => exact of_same (by rw [State.strobe_ctl])
  | work hr h => exact of_same (by rw [h.edits.standing.ctl])
  | stop x p cause hr =>
    have hnf := run_ne (m := .fault) hr rfl
    rw [State.runStop_frame]
    simp [hnf]
  | fault l p cause hm =>
    have hnl : s.ctl.mode ≠ .loading := hm.elim (run_ne · rfl) fun hm => by simp [hm]
    rw [State.enterFault_frame]
    simp [hnl]
  | start p cap hm hs => rw [State.start_frame]; simp [hm]
  | startJam p cap hm hs hj => rw [State.withdraw_ctl]; simp [hm, hj]
  | giveUp p why hm => rw [State.withdraw_ctl]; simp [hm]

/-! ### The queue, the idle station, the profile and the draws (O52) -/

/-- In RUN and WITHDRAWN the line law is the bound on the queue. -/
theorem State.LineLaw.of_inRun (hr : t.inRun = true) (hq : t.line.queue.length ≤ 8) : t.LineLaw :=
  ⟨hq, fun hf => absurd hf (State.ne_fault_of_inRun hr)⟩

theorem State.withdraw_inRun (s : State) (why : FaultInput) : (s.withdraw why).inRun = true := by
  rw [State.inRun, State.withdraw_ctl]; rfl

theorem State.withdraw_queue_le (s : State) (why : FaultInput) (h : s.line.queue.length ≤ 8) :
    (s.withdraw why).line.queue.length ≤ 8 :=
  State.withdraw_keeps (P := fun u => u.line.queue.length ≤ 8) s Edits.queue_le (fun _ _ h => h) why h

theorem Move.lineLaw (h : Move c s t) (hs : s.LineLaw) : t.LineLaw := by
  cases h with
  | power straps pair hc =>
    refine ⟨Nat.zero_le _, fun hf => ?_⟩
    cases hd : straps.loadDis <;> simp [State.powerUpValues, hd] at hf
  | desk h =>
    have hline : t.line = s.line := by rw [h.rest]
    unfold State.LineLaw
    rw [hline]
    refine ⟨hs.1, fun hf => hs.2 ?_⟩
    rcases h.mode with hm | ⟨-, hm⟩ | ⟨-, hm⟩ <;> rw [hm] at hf
    · exact hf
    · cases hf
    · cases hf
  | line l k hl hk => exact hl hs
  | clock x hn ha => exact hs
  | strobe x pins hr hn ha =>
    refine .of_inRun ((State.strobe_inRun pins).trans hr) ((Edits.strobe _ pins).queue_le ?_)
    rw [State.sighted_frame]
    exact hs.1
  | work hr h => exact .of_inRun (h.edits.standing.inRun.trans hr) (h.edits.queue_le hs.1)
  | stop x p cause hr =>
    rw [State.runStop_frame]
    exact ⟨(BankLine.withdrawFrames_length _ _).trans hs.1, fun hf => by cases hf⟩
  | fault l p cause hm =>
    rw [State.enterFault_frame]
    exact ⟨Nat.zero_le _, fun _ => ⟨rfl, rfl, rfl⟩⟩
  | start p cap hm hs =>
    rw [State.start_frame]
    exact ⟨by simp, fun hf => by cases hf⟩
  | startJam p cap hm hs hj =>
    exact .of_inRun (State.withdraw_inRun _ _) (State.withdraw_queue_le _ _ (by rw [State.start_frame]; simp))
  | giveUp p why hm =>
    exact .of_inRun (State.withdraw_inRun _ _)
      (State.withdraw_queue_le _ _ ((Edits.refl (b := true)).giveUpCycle.queue_le hs.1))

theorem Move.idleLaw (h : Move c s t) (hs : s.IdleLaw) : t.IdleLaw := by
  intro hr
  have in_run {p : Prop} (ht : t.inRun = true) : p := by rw [ht] at hr; cases hr
  cases h with
  | power straps pair hc => exact ⟨rfl, rfl, rfl, rfl, rfl⟩
  | desk h =>
    have hsr : s.inRun = false := by
      cases hrun : s.inRun with
      | false => rfl
      | true => exact in_run (by rw [State.inRun, (h.run hrun).1]; exact hrun)
    rw [h.rest]
    exact hs hsr
  | line l k hl hk => exact hs hr
  | clock x hn ha => exact hs hr
  | strobe x pins hrun hn ha => exact in_run ((State.strobe_inRun pins).trans hrun)
  | work hrun h => exact in_run (h.edits.standing.inRun.trans hrun)
  | stop x p cause hrun => rw [State.runStop_frame]; exact ⟨rfl, rfl, rfl, rfl, rfl⟩
  | fault l p cause hm => rw [State.enterFault_frame]; exact ⟨rfl, rfl, rfl, rfl, rfl⟩
  | start p cap hm hs => exact in_run (by rw [State.start_frame]; rfl)
  | startJam p cap hm hs hj => exact in_run (State.withdraw_inRun _ _)
  | giveUp p why hm => exact in_run (State.withdraw_inRun _ _)

theorem State.ProfileLaw.congr (hs : s.ProfileLaw) (h : t.verdicts = s.verdicts) : t.ProfileLaw := by
  unfold State.ProfileLaw
  rwa [h]

theorem Move.profileLaw (h : Move c s t) (hs : s.ProfileLaw) : t.ProfileLaw := by
  cases h with
  | power straps pair hc => exact profileZero_clamped
  | desk h => exact h.profile hs
  | line l k hl hk => exact hs
  | clock x hn ha => exact hs
  | strobe x pins hr hn ha => exact hs.congr (by rw [State.strobe_verdicts])
  | work hr h => exact hs.congr h.edits.standing.verdicts
  | stop x p cause hr => exact hs.congr (by rw [State.runStop_frame])
  | fault l p cause hm => exact hs.congr (by rw [State.enterFault_frame])
  | start p cap hm hs' => exact hs.congr (by rw [State.start_frame])
  | startJam p cap hm hs' hj => exact hs.congr (by rw [State.withdraw_verdicts, State.start_frame])
  | giveUp p why hm =>
    exact hs.congr (by rw [State.withdraw_verdicts, (State.giveUpCycle_standing _).verdicts])

theorem State.DrawLaw.of_nil (h : t.steam.draws = []) : t.DrawLaw := by
  rw [State.DrawLaw, h]; exact List.nodup_nil

theorem Move.drawLaw (h : Move c s t) (hs : s.DrawLaw) : t.DrawLaw := by
  cases h with
  | power straps pair hc => exact .of_nil rfl
  | desk h => rw [h.rest]; exact hs
  | line l k hl hk => exact hs
  | clock x hn ha => exact hs
  | strobe x pins hr hn ha =>
    refine (Edits.strobe _ pins).drawLaw ?_
    rw [State.sighted_frame]
    exact hs
  | work hr h => exact h.edits.drawLaw hs
  | stop x p cause hr => exact .of_nil (by rw [State.runStop_frame])
  | fault l p cause hm => exact .of_nil (by rw [State.enterFault_frame])
  | start p cap hm hs => exact .of_nil (by rw [State.start_frame])
  | startJam p cap hm hs hj =>
    exact State.withdraw_keeps _ Edits.drawLaw (fun _ _ h => h) _ (.of_nil (by rw [State.start_frame]))
  | giveUp p why hm =>
    exact State.withdraw_keeps _ Edits.drawLaw (fun _ _ h => h) _
      ((Edits.refl (b := true)).giveUpCycle.drawLaw hs)

end Sys2Proof.Machine

namespace Sys2Proof.Proofs

open Sys2Proof.Machine

/-- Settles O51: after any move the record of a pitch follows the one that stood there. -/
theorem verdictStands : Obligations.VerdictStands := by
  intro c s t ht h j hj j' hj' hp
  have hf := (Move.of_exec h).follows ht j hj j' hj' hp
  exact ⟨hf.verdict, hf.reopened, hf.conflict, hf.temp, hf.band⟩

/-- Settles O54, move by move: a hold is made for a LIVE peer alone, and a peer leaves LIVE with its records
reopened. -/
theorem heldLawKept : Obligations.HeldLawKept := by
  intro s t hs h
  rcases step_cases h with rfl | ⟨c, rest, -, hmove⟩
  · exact hs
  · exact hmove.heldLaw hs

/-- Settles O56, move by move: only a strobe changes the pitches of a track that is not emptied. -/
theorem trackLawKept : Obligations.TrackLawKept := by
  intro s t hc hs h
  have ht : t.TrackLaw := by
    rcases step_cases h with rfl | ⟨c, rest, -, hmove⟩
    · exact hs
    · exact hmove.trackLaw hc hs
  exact ⟨ht, ht.nodup, ht.length_le⟩

/-- Settles O59, move by move: what is handed to the gate stands in the track, short of the gate. -/
theorem gateLawKept : Obligations.GateLawKept := by
  intro s t hc ht hs h
  have hg : t.GateLaw := by
    rcases step_cases h with rfl | ⟨c, rest, -, hmove⟩
    · exact hs
    · exact hmove.gateLaw hc ht hs
  exact ⟨hg, hg.nodup⟩

/-- Settles O55, move by move. -/
theorem parkLawKept : Obligations.ParkLawKept := by
  intro s t hc hs h
  rcases step_cases h with rfl | ⟨c, rest, -, hmove⟩
  · exact ⟨hc, hs⟩
  · exact ⟨hmove.configLaw hc, hmove.parkLaw hc hs⟩

/-- Settles O53, move by move: the down step that would break the allowance is a run-stop. -/
theorem allowanceLawKept : Obligations.AllowanceLawKept := by
  intro s t hs h
  rcases step_cases h with rfl | ⟨c, rest, -, hmove⟩
  · exact hs
  · exact hmove.allowanceLaw hs

/-- Settles O52, the four laws each move by move. -/
theorem standingLawsKept : Obligations.StandingLawsKept := by
  intro s t h
  rcases step_cases h with rfl | ⟨c, rest, -, hmove⟩
  · exact ⟨id, id, id, id⟩
  · exact ⟨hmove.lineLaw, hmove.idleLaw, hmove.profileLaw, hmove.drawLaw⟩

/-- Settles O49: only the moves of POWER_UP, RESET and CLEAR set a counter back, to 0. -/
theorem countersOnlyRise : Obligations.CountersOnlyRise := fun _ _ _ h => (Move.of_exec h).counters

/-- Settles O50: the moves lead from station state to station state as the table of R167 has it, and a move
within a run keeps its settings. -/
theorem statesMoveSettingsStand : Obligations.StatesMoveSettingsStand := by
  intro c s t h
  have hmove := Move.of_exec h
  refine ⟨fun hs ht => ?_, hmove.modes⟩
  rcases hmove.run_settings ht with ⟨-, himage, hcfg, hprofile, hplan⟩ | ⟨hm, -⟩
  · exact ⟨himage, hcfg, hprofile, hplan⟩
  · exact State.standby_elim hm hs

end Sys2Proof.Proofs
end


section
/-! PROOF. A small view of the station for the laws of the own jars: the marks of the records, the claim count
and the chuck. Each operation is an equation over the view; most leave it as it stands. -/

namespace Sys2Proof.Machine

/-- A record as the claim logic and the chuck see it: its pitch, and whether it is CLAIMED or IN_CHUCK. -/
structure Mark where
  pitch : Word
  claimed : Bool
  chucked : Bool

def Jar.mark (j : Jar) : Mark := ⟨j.pitch, j.isClaimed, j.isInChuck⟩

/-- What the laws of claims, spacing and chuck (R42, R49, R108) read of a station. -/
structure OwnView where
  mode : Mode
  cfg : Image
  n : Word
  openClaims : Nat
  chuck : Chuck
  cycle : Option Word
  capFound : Bool
  retriesLeft : Nat
  plan : Plan
  marks : List Mark

def State.own (s : State) : OwnView where
  mode := s.ctl.mode
  cfg := s.cfg
  n := s.clk.n
  openClaims := s.claims.openClaims
  chuck := s.head.chuck
  cycle := s.head.cyclePitch
  capFound := s.head.capFound
  retriesLeft := s.head.retriesLeft
  plan := s.head.plan
  marks := s.track.map Jar.mark

/-- The mark put in the place of the mark of its pitch. -/
def OwnView.put (m : Mark) (v : OwnView) : OwnView :=
  { v with marks := v.marks.map (fun x => if x.pitch == m.pitch then m else x) }

/-- The marks have different pitches (R35). -/
def OwnView.Distinct (v : OwnView) : Prop := (v.marks.map Mark.pitch).Nodup

/-! ### Marks put -/

section Put

variable {v : OwnView} {m m' x : Mark}

theorem OwnView.put_pitches (m : Mark) (v : OwnView) :
    (v.put m).marks.map Mark.pitch = v.marks.map Mark.pitch := by
  simp only [OwnView.put, List.map_map]
  refine List.map_congr_left fun x _ => ?_
  by_cases hp : x.pitch = m.pitch <;> simp [hp]

theorem OwnView.Distinct.put (h : v.Distinct) (m : Mark) : (v.put m).Distinct := by
  unfold OwnView.Distinct
  rwa [OwnView.put_pitches]

theorem OwnView.Distinct.unique (h : v.Distinct) (hm : m ∈ v.marks) (hx : x ∈ v.marks)
    (hp : m.pitch = x.pitch) : m = x :=
  List.inj_on_of_nodup_map h hm hx hp

theorem OwnView.mem_put (hx : x ∈ (v.put m).marks) : x = m ∨ (x ∈ v.marks ∧ x.pitch ≠ m.pitch) := by
  obtain ⟨y, hy, rfl⟩ := List.mem_map.mp hx
  by_cases hp : y.pitch = m.pitch
  · exact .inl (by simp [hp])
  · exact .inr (by simpa [hp] using hy)

theorem OwnView.mem_put_of (hm : m ∈ v.marks) (hp : m'.pitch = m.pitch) : m' ∈ (v.put m').marks :=
  List.mem_map.mpr ⟨m, hm, by simp [hp]⟩

/-- A mark put over itself changes nothing. -/
theorem OwnView.put_self (h : v.Distinct) (hm : m ∈ v.marks) : v.put m = v := by
  have hid : v.marks.map (fun x => if x.pitch == m.pitch then m else x) = v.marks := by
    refine (List.map_congr_left fun x hx => ?_).trans (List.map_id _)
    by_cases hp : x.pitch = m.pitch
    · simp [h.unique hx hm hp]
    · simp [hp]
  simp only [OwnView.put, hid]

/-- One mark for another of its pitch moves the number of claims by those two alone. -/
theorem countP_claimed_replace (l : List Mark) (h : (l.map Mark.pitch).Nodup) (hm : m ∈ l)
    (hp : m'.pitch = m.pitch) :
    (l.map (fun x => if x.pitch == m'.pitch then m' else x)).countP Mark.claimed + m.claimed.toNat
      = l.countP Mark.claimed + m'.claimed.toNat := by
  induction l with
  | nil => cases hm
  | cons y rest ih =>
    rw [List.map_cons, List.nodup_cons] at h
    obtain ⟨hy, hrest⟩ := h
    rw [List.map_cons, List.countP_cons, List.countP_cons]
    rcases List.mem_cons.mp hm with rfl | hm
    · have hid : rest.map (fun x => if x.pitch == m'.pitch then m' else x) = rest := by
        refine (List.map_congr_left fun x hx => ?_).trans (List.map_id _)
        have hne : x.pitch ≠ m'.pitch := fun he => hy (List.mem_map.mpr ⟨x, hx, he.trans hp⟩)
        simp [hne]
      rw [hid]
      simp only [hp, beq_self_eq_true, if_true]
      cases m.claimed <;> cases m'.claimed <;> simp
    · have hne : y.pitch ≠ m'.pitch := fun he => hy (List.mem_map.mpr ⟨m, hm, (he.trans hp).symm⟩)
      have hih := ih hrest hm
      rw [if_neg (show ¬ ((y.pitch == m'.pitch) = true) by simpa using hne)]
      omega

end Put

/-! ### The operations over the view -/

section Equations

variable (s : State)

@[simp] theorem State.own_countBy (i : Fin 30) (k : Nat) : (s.countBy i k).own = s.own := rfl

@[simp] theorem State.own_count (i : Fin 30) : (s.count i).own = s.own := rfl

@[simp] theorem State.own_enqueue (f : TxFrame) : (s.enqueue f).own = s.own := by
  unfold State.enqueue
  split <;> rfl

@[simp] theorem State.own_putJar (j : Jar) : (s.putJar j).own = s.own.put j.mark := by
  have hmarks : (s.putJar j).track.map Jar.mark
      = (s.track.map Jar.mark).map (fun x => if x.pitch == j.mark.pitch then j.mark else x) := by
    simp only [State.putJar, State.updJar, List.map_map]
    refine List.map_congr_left fun x _ => ?_
    by_cases hp : x.pitch = j.pitch <;> simp [hp, Jar.mark]
  simp only [State.own, State.putJar_ctl, State.putJar_cfg, State.putJar_clk, State.putJar_claims,
    State.putJar_head, hmarks, OwnView.put]

@[simp] theorem State.own_gateInsert (p : Word) (v : Verdict) : (s.gateInsert p v).own = s.own := by
  rw [State.gateInsert_frame]
  rfl

@[simp] theorem State.own_handToGate (p : Word) (v : Verdict) (disp : Disposition) :
    (s.handToGate p v disp).own = s.own := by
  unfold State.handToGate
  split
  · split <;> simp
  · rfl

@[simp] theorem State.own_countOwnVerdict (v : Verdict) : (s.countOwnVerdict v).own = s.own := by
  unfold State.countOwnVerdict
  split <;> simp

@[simp] theorem State.own_setOwnVerdict (j : Jar) (v : Verdict) (m : Measurements) :
    (s.setOwnVerdict j v m).own = s.own.put ⟨j.pitch, false, false⟩ := by
  simp [State.setOwnVerdict, Jar.mark, Jar.isClaimed, Jar.isInChuck]

@[simp] theorem State.own_setPeerVerdict (j : Jar) (k : Station) (v : Verdict) (disp : Disposition) (a : Byte) :
    (s.setPeerVerdict j k v disp a).own = s.own.put ⟨j.pitch, false, false⟩ := by
  simp [State.setPeerVerdict, Jar.mark, Jar.isClaimed, Jar.isInChuck]

@[simp] theorem State.own_giveBack (j : Jar) : (s.giveBack j).own = s.own.put ⟨j.pitch, false, false⟩ := by
  simp [State.giveBack, Jar.mark, Jar.isClaimed, Jar.isInChuck, Jar.discard]

@[simp] theorem State.own_putPeer (k : Station) (p : Peer) : (s.putPeer k p).own = s.own := rfl

@[simp] theorem State.own_refresh (k : Station) : (s.refresh k).own = s.own := by
  unfold State.refresh
  split <;> rfl

@[simp] theorem State.own_noteInStep (k : Station) (kind : Kind) : (s.noteInStep k kind).own = s.own := by
  simp [State.noteInStep]

/-- A held record is no own record, before its reopening or after it. -/
@[simp] theorem State.own_reopenHeldBy (k : Station) : (s.reopenHeldBy k).own = s.own := by
  have hmark (j : Jar) : (if j.heldBy k then j.reopen else j).mark = j.mark := by
    split
    · rename_i hk
      obtain ⟨q, a, hq⟩ := Jar.heldBy_iff.mp hk
      simp [Jar.mark, Jar.reopen, Jar.isClaimed, Jar.isInChuck, hq]
    · rfl
  simp [State.own, State.reopenHeldBy, Function.comp_def, hmark, State.cfg]

@[simp] theorem State.own_setAside (k : Station) (p : Peer) : (s.setAside k p).own = s.own := by
  simp [State.setAside]

@[simp] theorem State.own_reportLapse (k : Station) : (s.reportLapse k).own = s.own := by
  unfold State.reportLapse
  dsimp only
  split
  · split <;> simp
  all_goals rfl

@[simp] theorem State.own_takeHello (k : Station) (jar : Word) (a b : Byte) :
    (s.takeHello k jar a b).own = s.own := by
  unfold State.takeHello State.helloOutcome
  dsimp only
  split <;> simp <;> rfl

@[simp] theorem State.own_takeWithdraw (k : Station) : (s.takeWithdraw k).own = s.own := by
  unfold State.takeWithdraw
  dsimp only
  split <;> simp

@[simp] theorem State.own_takeSkewed (k : Station) : (s.takeSkewed k).own = s.own := by
  unfold State.takeSkewed
  dsimp only
  split
  · simp
  · simp
  all_goals split <;> simp

@[simp] theorem State.own_takeSteam (k : Station) (jar : Word) (a b : Byte) :
    (s.takeSteam k jar a b).own = s.own := by
  unfold State.takeSteam
  split <;> rfl

@[simp] theorem State.own_dropStale : s.dropStale.own = s.own := rfl

@[simp] theorem State.own_endDraws : s.endDraws.own = s.own := rfl

@[simp] theorem State.own_valveFall : s.valveFall.own = s.own := rfl

@[simp] theorem State.own_decideFlush : s.decideFlush.own = s.own := by
  unfold State.decideFlush
  dsimp only
  split
  · rw [State.own_count, State.own_enqueue]; rfl
  · rw [State.own_enqueue]; rfl

theorem State.own_flushStart (p : Word) : (s.flushStart p).own = { s.own with chuck := .flush } := by
  have hmarks (f : FlushKind) :
      (s.decideFlush.updJar p (fun j => { j with flush := f })).own = s.own := by
    rw [← s.own_decideFlush]
    simp only [State.own, State.updJar, List.map_map]
    congr 1
    refine List.map_congr_left fun x _ => ?_
    by_cases hp : x.pitch = p <;> simp [hp, Jar.mark, Jar.isClaimed, Jar.isInChuck]
  unfold State.flushStart
  rw [← hmarks]
  rfl

theorem State.own_toPick : s.toPick.own
    = { s.own with cycle := none, chuck := if s.cfg.returnPitches = 0 then .ready else .returning } := rfl

theorem State.own_earlyLift : s.earlyLift.own = { s.own with cycle := none, chuck := .lift } := rfl

theorem State.own_dropClaim (p : Word) :
    (s.dropClaim p).own = { s.own with openClaims := s.own.openClaims - 1 } := rfl

theorem State.own_makeClaim (j : Jar) : (s.makeClaim j).own
    = { s.own.put ⟨j.pitch, true, false⟩ with openClaims := s.own.openClaims + 1 } := by
  have hput : ((s.putJar { j with st := .claimed }).enqueue (claimFrame s.cfg j)).own
      = s.own.put ⟨j.pitch, true, false⟩ := by simp [Jar.mark, Jar.isClaimed, Jar.isInChuck]
  have hclaims : ((s.putJar { j with st := .claimed }).enqueue (claimFrame s.cfg j)).claims = s.claims := by simp
  unfold State.makeClaim
  rw [← hput]
  dsimp only [State.own_count]
  simp only [State.own, hclaims]

theorem State.own_beginCycle (j : Jar) : (s.beginCycle j).own = { s.own.put ⟨j.pitch, false, true⟩ with
    openClaims := s.own.openClaims - 1, chuck := .engage, cycle := some j.pitch
    capFound := false, retriesLeft := s.own.plan.retries } := by
  have hput : (s.putJar { j with st := .inChuck ⟨0, 0, none⟩ }).own = s.own.put ⟨j.pitch, false, true⟩ := by
    simp [Jar.mark, Jar.isClaimed, Jar.isInChuck]
  rw [← hput]
  rfl

end Equations

/-! ### Records of the track in the view -/

section Members

variable {s : State} {j : Jar}

theorem State.mark_mem (hj : j ∈ s.track) : j.mark ∈ s.own.marks := List.mem_map_of_mem hj

theorem State.TrackLaw.distinct (h : s.TrackLaw) : s.own.Distinct := by
  unfold OwnView.Distinct State.own
  rw [List.map_map]
  exact h.nodup

/-- A record rewritten with its own mark leaves the view as it stands. -/
theorem State.own_putJar_same {k : Jar} (h : s.own.Distinct) (hj : j ∈ s.track) (hk : k.mark = j.mark) :
    (s.putJar k).own = s.own := by
  rw [State.own_putJar, hk, OwnView.put_self h (State.mark_mem hj)]

theorem State.chuckJar_mark {m : Measurements} (h : s.chuckJar? = some (j, m)) :
    (⟨j.pitch, false, true⟩ : Mark) ∈ s.own.marks ∧ s.own.cycle = some j.pitch
      ∧ j.mark = ⟨j.pitch, false, true⟩ := by
  obtain ⟨hj, hm, hc⟩ := s.chuckJar_some h
  have hmark : j.mark = ⟨j.pitch, false, true⟩ := by simp [Jar.mark, Jar.isClaimed, Jar.isInChuck, hm]
  exact ⟨hmark ▸ State.mark_mem hj, hc, hmark⟩

theorem State.own_lapseOne (h : s.own.Distinct) (p : Word) : (s.lapseOne p).own = s.own := by
  unfold State.lapseOne
  split
  · rfl
  · rename_i x hx
    obtain ⟨hmem, -⟩ := s.findJar_some hx
    split
    · rename_i k q a hst
      split
      · rw [State.own_reportLapse, State.own_count]
        exact State.own_putJar_same h hmem (by simp [Jar.mark, Jar.reopen, Jar.isClaimed, Jar.isInChuck, hst])
      · rfl
    all_goals rfl

theorem State.own_lapseChecks (h : s.own.Distinct) : s.lapseChecks.own = s.own := by
  unfold State.lapseChecks
  have hfold : ∀ (l : List Word) (t : State), t.own.Distinct → (l.foldl State.lapseOne t).own = t.own := by
    intro l
    induction l with
    | nil => exact fun _ _ => rfl
    | cons p rest ih =>
      intro t ht
      have hone := State.own_lapseOne ht p
      rw [List.foldl_cons, ih _ (by rwa [hone]), hone]
  exact hfold _ s h

theorem State.own_takeRelease (h : s.own.Distinct) (k : Station) (jar : Word) :
    (s.takeRelease k jar).own = s.own := by
  unfold State.takeRelease
  split
  · rename_i x hx
    obtain ⟨hmem, -⟩ := s.findJar_some hx
    split
    · rename_i hk
      obtain ⟨q, a, hst⟩ := Jar.heldBy_iff.mp (Bool.and_eq_true _ _ ▸ hk).2
      exact State.own_putJar_same h hmem (by simp [Jar.mark, Jar.reopen, Jar.isClaimed, Jar.isInChuck, hst])
    · rfl
  · rfl

/-- The record at the probe is no own record in CLAIMED or IN_CHUCK, before its verdict or after it. -/
theorem State.own_probe (h : s.own.Distinct) (pins : StrobePins) : (s.probe pins).own = s.own := by
  unfold State.probe
  split
  · rfl
  · rename_i x hx
    obtain ⟨hmem, ⟨m, hm⟩, -⟩ := s.jarAtProbe_some hx
    simp only [hm]
    rw [State.own_setOwnVerdict]
    have hmark : x.mark = ⟨x.pitch, false, false⟩ := by simp [Jar.mark, Jar.isClaimed, Jar.isInChuck, hm]
    exact hmark ▸ OwnView.put_self h (State.mark_mem hmem)

end Members

end Sys2Proof.Machine
end


section
/-! PROOF. The claim law (R42, R66) through every operation, over the view of the own jars. -/

namespace Sys2Proof.Machine

/-- The claim law over the view, with the distance below which every CLAIMED record stands: E between strobes,
E + 1 in a strobe until ENGAGE has had its turn. -/
structure OwnView.Claims (b : Nat) (v : OwnView) : Prop where
  distinct : v.Distinct
  count : v.openClaims = v.marks.countP Mark.claimed
  limit : v.openClaims ≤ v.cfg.commitLimit
  short : ∀ m ∈ v.marks, m.claimed = true → distance v.n m.pitch < b ∧ v.mode = .run

theorem State.claimLaw_iff {s : State} (hd : s.own.Distinct) :
    s.ClaimLaw ↔ s.own.Claims s.cfg.entryOffset := by
  have hcount : s.own.marks.countP Mark.claimed = s.track.countP Jar.isClaimed := List.countP_map
  constructor
  · rintro ⟨hc, hl, hs⟩
    refine ⟨hd, hc.trans hcount.symm, hl, fun m hm => ?_⟩
    obtain ⟨j, hj, rfl⟩ := List.mem_map.mp hm
    exact hs j hj
  · rintro ⟨-, hc, hl, hs⟩
    exact ⟨hc.trans hcount, hl, fun j hj => hs j.mark (State.mark_mem hj)⟩

namespace OwnView.Claims

section View

variable {b : Nat} {v w : OwnView} {m m' : Mark} (h : v.Claims b)
include h

/-- The claim law reads the station state, the settings, N, the count and the marks alone. -/
theorem congr (hm : w.mode = v.mode) (hc : w.cfg = v.cfg) (hn : w.n = v.n)
    (ho : w.openClaims = v.openClaims) (hk : w.marks = v.marks) : w.Claims b := by
  obtain ⟨hd, hcount, hlimit, hshort⟩ := h
  unfold OwnView.Distinct at hd
  exact ⟨by rwa [OwnView.Distinct, hk], by rwa [ho, hk], by rwa [ho, hc], by rwa [hn, hm, hk]⟩

/-- One mark for another of its pitch, with the count that goes with it. -/
theorem edit (k : Nat) (hm : m ∈ v.marks) (hp : m'.pitch = m.pitch)
    (hk : k + m.claimed.toNat = v.openClaims + m'.claimed.toNat) (hl : k ≤ v.cfg.commitLimit)
    (hs : m'.claimed = true → distance v.n m.pitch < b ∧ v.mode = .run) :
    OwnView.Claims b { v.put m' with openClaims := k } where
  distinct := h.distinct.put m'
  count := by
    have hone := countP_claimed_replace (m' := m') v.marks h.distinct hm hp
    have hcount := h.count
    simp only [OwnView.put]
    omega
  limit := hl
  short x hx hc := by
    rcases OwnView.mem_put hx with rfl | ⟨hx, -⟩
    · exact hp ▸ hs hc
    · exact h.short x hx hc

/-- A mark that is no claim for another that is none. -/
theorem put (hm : m ∈ v.marks) (hp : m'.pitch = m.pitch) (hc : m.claimed = false) (hc' : m'.claimed = false) :
    (v.put m').Claims b :=
  h.edit v.openClaims hm hp (by rw [hc, hc']) h.limit (by simp [hc'])

/-- A claim gone, with the count. -/
theorem drop (hm : m ∈ v.marks) (hp : m'.pitch = m.pitch) (hc : m.claimed = true) (hc' : m'.claimed = false) :
    OwnView.Claims b { v.put m' with openClaims := v.openClaims - 1 } := by
  have hpos : 0 < v.openClaims := by
    rw [h.count]
    exact List.countP_pos_iff.mpr ⟨m, hm, hc⟩
  have hlimit := h.limit
  refine h.edit _ hm hp ?_ (by omega) (by simp [hc'])
  rw [hc, hc']
  simp only [Bool.toNat_true, Bool.toNat_false]
  omega

end View

section Operations

variable {b : Nat} {s : State} {j : Jar}

/-- The record in the chuck is no claim, and whatever the cycle makes of it is none. -/
theorem chucked {m : Measurements} (h : s.own.Claims b) (hj : s.chuckJar? = some (j, m)) (c : Bool) :
    (s.own.put ⟨j.pitch, false, c⟩).Claims b :=
  h.put (State.chuckJar_mark hj).1 rfl rfl rfl

/-- A record whose mark is no claim, given another state that is none. -/
theorem putJar {k : Jar} (h : s.own.Claims b) (hj : j ∈ s.track) (hp : k.pitch = j.pitch)
    (hc : j.isClaimed = false) (hc' : k.isClaimed = false) : (s.putJar k).own.Claims b := by
  rw [State.own_putJar]
  exact h.put (State.mark_mem hj) hp hc hc'

theorem head (h : s.own.Claims b) (x : Head) : (State.own { s with head := x }).Claims b :=
  h.congr rfl rfl rfl rfl rfl

/-- Whichever of two states a test picks. -/
theorem ite {t : State} {c : Prop} [Decidable c] (h : s.own.Claims b) (h' : t.own.Claims b) :
    (if c then s else t).own.Claims b := by
  split
  · exact h
  · exact h'

theorem noCap (h : s.own.Claims b) : s.noCap.own.Claims b := by
  unfold State.noCap
  split
  · rename_i j m hc
    have hput : ((s.giveBack j).count ctrNoCap).own.Claims b := by
      rw [State.own_count, State.own_giveBack]
      exact h.chucked hc false
    exact hput.congr rfl rfl rfl rfl rfl
  · exact h.congr rfl rfl rfl rfl rfl

theorem capCheck (h : s.own.Claims b) (cap : Bool) : (s.capCheck cap).own.Claims b := by
  unfold State.capCheck
  split
  · exact h.head _
  · split
    · exact h.head _
    · exact h.noCap

theorem endLift (h : s.own.Claims b) : s.endLift.own.Claims b := by
  unfold State.endLift
  split
  · rename_i j m hc
    have hput : (s.putJar { j with st := .probeWait m }).own.Claims b := by
      rw [State.own_putJar]
      exact h.chucked hc false
    exact hput.congr rfl rfl rfl rfl rfl
  · exact h.congr rfl rfl rfl rfl rfl

theorem vacateChuck (h : s.own.Claims b) : s.vacateChuck.own.Claims b := by
  unfold State.vacateChuck
  split
  · split
    · exact h.endLift
    · split
      · exact h.endLift
      · exact h
  · exact h.head _
  all_goals exact h

theorem driveStart (h : s.own.Claims b) : s.driveStart.own.Claims b := by
  unfold State.driveStart
  dsimp only
  split
  · rename_i j m hc
    rw [State.own_putJar]
    exact (h.chucked hc true).congr rfl rfl rfl rfl rfl
  · exact h.head _

theorem endDrive (h : s.own.Claims b) (how : DriveEnd) : (s.endDrive how).own.Claims b := by
  unfold State.endDrive
  dsimp only
  split
  · exact h.head _
  · rename_i j m hc
    split
    · exact h.head _
    · obtain ⟨hj, hm, -⟩ := s.chuckJar_some hc
      have hfree : j.isClaimed = false := by simp [Jar.isClaimed, hm]
      exact (h.head _).putJar hj rfl hfree hfree
    · rw [State.own_earlyLift, State.own_setOwnVerdict]
      exact (h.chucked hc false).congr rfl rfl rfl rfl rfl

theorem holdEnd (h : s.own.Claims b) : s.holdEnd.own.Claims b := by
  unfold State.holdEnd
  split
  · exact h.head _
  · rename_i j m hc
    obtain ⟨hj, hm, -⟩ := s.chuckJar_some hc
    have hfree : j.isClaimed = false := by simp [Jar.isClaimed, hm]
    split
    · split
      · exact (h.putJar (k := { j with overFlag := true }) hj rfl hfree hfree).head _
      · rw [State.own_earlyLift, State.own_setOwnVerdict]
        exact (h.chucked hc false).congr rfl rfl rfl rfl rfl
    · exact h.head _

theorem leaveDrive (h : s.own.Claims b) : s.leaveDrive.own.Claims b := by
  unfold State.leaveDrive
  split
  · exact h.holdEnd
  · exact h.head _

theorem endDriveStage (h : s.own.Claims b) : s.endDriveStage.own.Claims b := by
  unfold State.endDriveStage
  dsimp only
  split
  · have hend := h.endDrive .expiry
    split
    · exact hend.leaveDrive
    · exact hend
  · split
    · exact h.leaveDrive
    · exact h

theorem stageWork (h : s.own.Claims b) (pins : StrobePins) : (s.stageWork pins).own.Claims b := by
  unfold State.stageWork
  split
  · exact h
  · rename_i p hp
    dsimp only
    split
    · split
      · split
        · rw [State.own_flushStart]
          exact h.congr rfl rfl rfl rfl rfl
        · exact h
      · split
        · exact h
        · exact h.capCheck _
    · split
      · exact h.head _
      · exact h.head _
    · split
      · exact h.driveStart
      · exact h
    · split
      · exact h.endDriveStage
      · exact h
    · split
      · exact h.holdEnd
      · exact h
    all_goals exact h

theorem takeSample (h : s.own.Claims b) (tau : Byte) : (s.takeSample tau).own.Claims b := by
  unfold State.takeSample
  split
  · exact h
  · rename_i j m hc
    obtain ⟨hj, hm, -⟩ := s.chuckJar_some hc
    have hfree : j.isClaimed = false := by simp [Jar.isClaimed, hm]
    have hput (m' : Measurements) : (s.putJar { j with st := .inChuck m' }).own.Claims b :=
      h.putJar hj rfl hfree rfl
    split
    · unfold State.sampleRunning
      dsimp only
      exact .ite (((hput _).head _).endDrive _) (.ite (((hput _).head _).endDrive _) ((hput _).head _))
    · exact hput _
    · exact hput _
    · exact h

theorem takeAngle (h : s.own.Claims b) : s.takeAngle.own.Claims b := by
  unfold State.takeAngle
  split
  · exact h
  · rename_i j m hc
    obtain ⟨hj, hm, -⟩ := s.chuckJar_some hc
    split
    · exact h.putJar hj rfl (by simp [Jar.isClaimed, hm]) rfl
    · exact h

/-- The exit decision takes a record past every claim (R155). -/
theorem exitDecision (h : s.own.Claims b) (hx : s.cfg.gateRole = true → b ≤ s.cfg.bankExit) :
    s.exitDecision.own.Claims b := by
  unfold State.exitDecision
  split
  · rename_i hg
    split
    · exact h
    · rename_i j hj
      split
      · exact h
      · have hmem := List.mem_of_find?_eq_some hj
        have hd : s.dist j.pitch = s.cfg.bankExit := by simpa using List.find?_some hj
        have hfree : j.isClaimed = false := by
          by_contra hc
          have hshort := (h.short j.mark (State.mark_mem hmem) (by simpa [Jar.mark] using hc)).1
          have hbx := hx hg
          simp only [State.dist] at hd
          simp only [State.own, Jar.mark, hd] at hshort
          omega
        rw [State.own_gateInsert, State.own_count]
        exact h.putJar hmem rfl hfree rfl
  · exact h

/-! ### ENGAGE start and the claim test -/

/-- With no claim at E itself, every claim is short of E. -/
theorem sharpen {v : OwnView} (h : v.Claims (b + 1))
    (hne : ∀ m ∈ v.marks, m.claimed = true → distance v.n m.pitch ≠ b) : v.Claims b where
  distinct := h.distinct
  count := h.count
  limit := h.limit
  short m hm hc := by
    obtain ⟨hlt, hrun⟩ := h.short m hm hc
    have hne := hne m hm hc
    exact ⟨by omega, hrun⟩

end Operations

end OwnView.Claims

/-- The mark of the record that ENGAGE takes. -/
theorem State.jarToEngage_mark {s : State} {j : Jar} (h : s.jarToEngage? = some j) :
    (⟨j.pitch, true, false⟩ : Mark) ∈ s.own.marks ∧ s.dist j.pitch = s.cfg.entryOffset := by
  obtain ⟨hj, hc, hd⟩ := s.jarToEngage_some h
  have hmark : j.mark = ⟨j.pitch, true, false⟩ := by simp [Jar.mark, Jar.isClaimed, Jar.isInChuck, hc]
  exact ⟨hmark ▸ State.mark_mem hj, hd⟩

/-- The record that a cycle has begun on stands IN_CHUCK. -/
theorem State.beginCycle_mark {s : State} {j : Jar} (h : s.jarToEngage? = some j) :
    (⟨j.pitch, false, true⟩ : Mark) ∈ (s.beginCycle j).own.marks := by
  rw [State.own_beginCycle]
  exact OwnView.mem_put_of (State.jarToEngage_mark h).1 rfl

theorem State.own_alreadyCapped (s : State) (j : Jar) (m : Measurements) :
    (s.alreadyCapped { j with st := .inChuck m }).own
      = { s.own.put ⟨j.pitch, false, false⟩ with cycle := none, chuck := .lift } := by
  rw [State.alreadyCapped, State.own_earlyLift, State.own_count, State.own_putJar]
  rfl

namespace OwnView.Claims

variable {b : Nat} {s : State} {j : Jar}

/-- ENGAGE start takes the claim at E: every other claim is short of E (R108). -/
theorem engageStart (h : s.own.Claims (s.cfg.entryOffset + 1)) (hj : s.jarToEngage? = some j)
    (pins : StrobePins) : (s.engageStart j pins).own.Claims s.cfg.entryOffset := by
  obtain ⟨hmark, hd⟩ := State.jarToEngage_mark hj
  have hbegin : (s.beginCycle j).own.Claims s.cfg.entryOffset := by
    rw [State.own_beginCycle]
    refine OwnView.Claims.congr (v := { s.own.put ⟨j.pitch, false, true⟩ with openClaims := s.own.openClaims - 1 })
      (sharpen (h.drop hmark rfl rfl rfl) ?_) rfl rfl rfl rfl rfl
    intro m hm hc hdm
    rcases OwnView.mem_put hm with rfl | ⟨-, hne⟩
    · cases hc
    · exact hne (distance_inj s.clk.n _ _ (hdm.trans hd.symm))
  unfold State.engageStart
  dsimp only
  split
  · rw [State.own_alreadyCapped]
    have hfree := hbegin.put (m' := ⟨j.pitch, false, false⟩) (State.beginCycle_mark hj) rfl rfl rfl
    exact hfree.congr rfl rfl rfl rfl rfl
  · exact hbegin.capCheck _

theorem engageOrFall (h : s.own.Claims (s.cfg.entryOffset + 1)) (pins : StrobePins) :
    (s.engageOrFall pins).own.Claims s.cfg.entryOffset := by
  unfold State.engageOrFall
  split
  · rename_i j hj
    split at hj
    · exact h.engageStart hj pins
    · cases hj
  · rename_i hnone
    have hsharp : s.own.Claims s.cfg.entryOffset := by
      refine sharpen h fun m hm hc hd => ?_
      have hrun : s.ctl.mode = .run := (h.short m hm hc).2
      rw [if_pos hrun] at hnone
      obtain ⟨x, hx, rfl⟩ := List.mem_map.mp hm
      have hno := List.find?_eq_none.mp hnone x hx
      simp only [Jar.mark, State.own] at hc hd
      simp [hc, State.dist, hd] at hno
    exact hsharp.congr rfl rfl rfl rfl rfl

end OwnView.Claims

/-! ### The claim test -/

/-- What the claim test has passed on: an OPEN record of the track, a claim free, the spacing kept. -/
theorem State.claimOne_cases (s : State) (p : Word) :
    s.claimOne p = s ∨ ∃ j ∈ s.track, j.pitch = p ∧ j.st = .openJar ∧ commitTest s = true
      ∧ spacingTest s j = true ∧ s.claimOne p = s.makeClaim j := by
  unfold State.claimOne
  split
  · rename_i j hj
    obtain ⟨hmem, hp⟩ := s.findJar_some hj
    split
    · rename_i hc
      simp only [claimable, Bool.and_eq_true] at hc
      obtain ⟨⟨⟨⟨⟨hst, -⟩, -⟩, hcm⟩, hsp⟩, -⟩ := hc
      refine .inr ⟨j, hmem, hp, ?_, hcm, hsp, rfl⟩
      unfold stateTest at hst
      split at hst <;> simp_all
    · exact .inl rfl
  · exact .inl rfl

theorem State.claimOne_frame (s : State) (p : Word) :
    (s.claimOne p).ctl = s.ctl ∧ (s.claimOne p).clk = s.clk := by
  rcases s.claimOne_cases p with h | ⟨j, -, -, -, -, -, h⟩ <;> rw [h] <;> simp

/-- A law that each claim keeps, in RUN on a record in the range E - A to E - 1, stands after the claim test. -/
theorem State.claimTest_keeps {P : State → Prop} (s : State)
    (hone : ∀ (t : State) (p : Word), t.ctl = s.ctl → t.clk = s.clk → t.ctl.mode = .run →
      t.cfg.entryOffset - t.cfg.claimLead ≤ t.dist p ∧ t.dist p < t.cfg.entryOffset → P t → P (t.claimOne p))
    (h : P s) : P s.claimTest := by
  unfold State.claimTest
  split
  · rename_i hrun
    have hfold : ∀ (l : List Word), (∀ p ∈ l, s.cfg.entryOffset - s.cfg.claimLead ≤ s.dist p
        ∧ s.dist p < s.cfg.entryOffset) → ∀ t : State, t.ctl = s.ctl → t.clk = s.clk → P t → P (l.foldl State.claimOne t) := by
      intro l
      induction l with
      | nil => exact fun _ _ _ _ ht => ht
      | cons p rest ih =>
        intro hl t hctl hclk ht
        obtain ⟨hctl', hclk'⟩ := t.claimOne_frame p
        refine ih (fun q hq => hl q (List.mem_cons_of_mem _ hq)) _ (hctl'.trans hctl) (hclk'.trans hclk) ?_
        refine hone t p hctl hclk (hctl ▸ hrun.1) ?_ ht
        simpa [State.dist, State.cfg, hctl, hclk] using hl p (by simp)
    refine hfold _ (fun p hp => ?_) s rfl rfl h
    obtain ⟨j, hj, rfl⟩ := List.mem_map.mp hp
    have hrange := (List.mem_filter.mp hj).2
    simp only [Bool.and_eq_true, decide_eq_true_eq] at hrange
    exact hrange
  · exact h

/-- A record in a state other than CLAIMED and IN_CHUCK, as its mark shows it. -/
theorem Jar.mark_open {j : Jar} (h : j.st = .openJar) : j.mark = ⟨j.pitch, false, false⟩ := by
  simp [Jar.mark, Jar.isClaimed, Jar.isInChuck, h]

namespace OwnView.Claims

variable {b : Nat} {s : State} {j : Jar}

theorem claimOne {p : Word} (h : s.own.Claims b) (hrun : s.ctl.mode = .run) (hd : s.dist p < b) :
    (s.claimOne p).own.Claims b := by
  rcases s.claimOne_cases p with hsame | ⟨j, hj, rfl, hopen, hcm, -, hmake⟩
  · rwa [hsame]
  · rw [hmake, State.own_makeClaim]
    have hmark := Jar.mark_open hopen ▸ State.mark_mem hj
    refine h.edit _ hmark rfl (by rfl) ?_ fun _ => ⟨hd, hrun⟩
    exact of_decide_eq_true hcm

theorem claimTest (h : s.own.Claims s.cfg.entryOffset) : s.claimTest.own.Claims s.cfg.entryOffset :=
  s.claimTest_keeps (P := fun t => t.own.Claims s.cfg.entryOffset)
    (fun t _ hctl _ hrun hd ht => ht.claimOne hrun (by simpa [State.cfg, hctl] using hd.2)) h

/-! ### Frames of peers -/

/-- A claim of a record given up to a peer (R54, R65). -/
theorem givenUp (h : s.own.Claims b) (hj : j ∈ s.track) (hc : j.st = .claimed) :
    OwnView.Claims b { s.own.put ⟨j.pitch, false, false⟩ with openClaims := s.own.openClaims - 1 } := by
  have hmark : j.mark = ⟨j.pitch, true, false⟩ := by simp [Jar.mark, Jar.isClaimed, Jar.isInChuck, hc]
  have hmem : ⟨j.pitch, true, false⟩ ∈ s.own.marks := hmark ▸ State.mark_mem hj
  exact h.drop hmem rfl rfl rfl

end OwnView.Claims

/-- A record that a frame finds in CLAIMED is given up with its claim; any other frame leaves the view. -/
theorem State.own_claimOnRecord {s : State} {j : Jar} (h : s.own.Distinct) (hj : j ∈ s.track) (k : Station)
    (a : Byte) : (s.claimOnRecord j k a).own = s.own ∨ (j.st = .claimed ∧ (s.claimOnRecord j k a).own
      = { s.own.put ⟨j.pitch, false, false⟩ with openClaims := s.own.openClaims - 1 }) := by
  have hheld : (j.holdFor s.clk.n k a).mark = ⟨j.pitch, false, false⟩ := rfl
  unfold State.claimOnRecord
  split
  · rename_i hst
    exact .inl (State.own_putJar_same h hj (hheld.trans (Jar.mark_open hst).symm))
  · rename_i hst
    split
    · exact .inl (State.own_putJar_same h hj
        (by rw [hheld]; simp [Jar.mark, Jar.isClaimed, Jar.isInChuck, hst]))
    · exact .inl rfl
  · rename_i hst
    split
    · refine .inr ⟨hst, ?_⟩
      rw [State.own_count, State.own_dropClaim, State.own_putJar, hheld]
      rfl
    · exact .inl rfl
  all_goals exact .inl rfl

theorem State.own_doneOnRecord {s : State} {j : Jar} (h : s.own.Distinct) (hj : j ∈ s.track) (k : Station)
    (v : Verdict) (a : Byte) : (s.doneOnRecord j k v a).own = s.own ∨ (j.st = .claimed
      ∧ (s.doneOnRecord j k v a).own
        = { s.own.put ⟨j.pitch, false, false⟩ with openClaims := s.own.openClaims - 1 }) := by
  have hkeep (hmark : j.mark = ⟨j.pitch, false, false⟩) : s.own.put ⟨j.pitch, false, false⟩ = s.own :=
    OwnView.put_self h (hmark ▸ State.mark_mem hj)
  unfold State.doneOnRecord
  dsimp only
  split
  · rename_i hst
    rw [State.own_setPeerVerdict]
    exact .inl (hkeep (Jar.mark_open hst))
  · rename_i hst
    rw [State.own_setPeerVerdict]
    exact .inl (hkeep (by simp [Jar.mark, Jar.isClaimed, Jar.isInChuck, hst]))
  · rename_i hst
    rw [State.own_dropClaim, State.own_setPeerVerdict]
    exact .inr ⟨hst, rfl⟩
  · exact .inl rfl
  · exact .inl rfl
  · rw [State.own_count]
    exact .inl (State.own_putJar_same h hj rfl)
  · split
    · exact .inl rfl
    · rw [State.own_count]
      exact .inl (State.own_putJar_same h hj rfl)

/-- A frame delivered leaves the view as it stands, or gives up the claim of one CLAIMED record with it. -/
theorem State.own_deliver {s : State} (h : s.own.Distinct) (f : RxFrame) :
    (s.deliver f).own = s.own ∨ ∃ j ∈ s.track, j.st = .claimed ∧ (s.deliver f).own
      = { s.own.put ⟨j.pitch, false, false⟩ with openClaims := s.own.openClaims - 1 } := by
  unfold State.deliver
  split
  · exact .inl (s.own_takeHello _ _ _ _)
  · unfold State.takeClaim
    split
    · split
      · rename_i j hj
        obtain ⟨hmem, -⟩ := s.findJar_some hj
        exact (State.own_claimOnRecord h hmem _ _).imp id fun hc => ⟨j, hmem, hc⟩
      · exact .inl rfl
    · exact .inl rfl
  · exact .inl (State.own_takeRelease h _ _)
  · unfold State.takeDone
    split
    · exact .inl (s.own_refresh _)
    · split
      · exact .inl (s.own_refresh _)
      · rename_i j hj
        obtain ⟨hmem, -⟩ := State.findJar_some _ hj
        have hd : (s.refresh f.sender).own.Distinct := by rwa [State.own_refresh]
        have hcases := State.own_doneOnRecord hd hmem f.sender (a := f.payA)
        rw [State.own_refresh] at hcases
        rw [State.refresh_track] at hmem
        exact (hcases _).imp id fun hc => ⟨j, hmem, hc⟩
  · exact .inl (s.own_takeSteam _ _ _ _)
  · exact .inl (s.own_takeWithdraw _)

/-- An own claim as entry to WITHDRAWN leaves it. -/
def Mark.unclaimed (m : Mark) : Mark := { m with claimed := false }

theorem State.own_giveBackClaims (s : State) : s.giveBackClaims.own
    = { s.own with openClaims := 0, marks := s.own.marks.map Mark.unclaimed } := by
  have hmark (j : Jar) : (if j.isClaimed then j.reopen else j).mark = j.mark.unclaimed := by
    split
    · rename_i hc
      have hst : j.isInChuck = false := by
        unfold Jar.isClaimed at hc
        split at hc <;> simp_all [Jar.isInChuck]
      simp [Jar.mark, Jar.reopen, Mark.unclaimed, Jar.isClaimed, Jar.isInChuck] at hst ⊢
      exact hst
    · rename_i hc
      simp [Jar.mark, Mark.unclaimed, hc]
  simp only [State.own, State.giveBackClaims, List.map_map, Function.comp_def, hmark]

/-- A withdrawal leaves no claim (R66). -/
theorem State.own_withdraw (s : State) (why : FaultInput) : (s.withdraw why).own
    = { s.own with mode := .withdrawn, openClaims := 0, marks := s.own.marks.map Mark.unclaimed } := by
  have hback := s.own_giveBackClaims
  unfold State.withdraw
  dsimp only
  rw [State.own_enqueue]
  simp only [State.own] at hback ⊢
  simp only [OwnView.mk.injEq] at hback ⊢
  simp_all [State.cfg]

theorem OwnView.unclaimed_pitches (v : OwnView) :
    (v.marks.map Mark.unclaimed).map Mark.pitch = v.marks.map Mark.pitch := by
  rw [List.map_map]
  rfl

theorem State.withdraw_claims {s : State} (h : s.own.Distinct) (why : FaultInput) (b : Nat) :
    (s.withdraw why).own.Claims b := by
  rw [State.own_withdraw]
  refine ⟨?_, ?_, Nat.zero_le _, ?_⟩
  · rw [OwnView.Distinct, OwnView.unclaimed_pitches]
    exact h
  · refine (List.countP_eq_zero.mpr fun m hm => ?_).symm
    obtain ⟨x, -, rfl⟩ := List.mem_map.mp hm
    simp [Mark.unclaimed]
  · intro m hm hc
    obtain ⟨x, -, rfl⟩ := List.mem_map.mp hm
    cases hc

/-! ### A strobe -/

/-- The view when a strobe's work on the records begins. -/
theorem State.own_sighted (s : State) (pins : StrobePins) : (s.sighted pins).own = { s.own with
    n := s.clk.n + 1
    marks := s.own.marks.filter (fun m => decide (distance (s.clk.n + 1) m.pitch < s.cfg.retireDistance))
      ++ (if pins.eye then [⟨s.clk.n + 1, false, false⟩] else []) } := by
  have hnew : (if pins.eye then [newJar s.cfg (s.clk.n + 1) pins.temp] else []).map Jar.mark
      = if pins.eye then [⟨s.clk.n + 1, false, false⟩] else [] := by
    split <;> rfl
  rw [State.sighted_frame]
  simp only [State.own, List.map_append, hnew, List.filter_map]
  rfl

/-- Aging the track retires no claim, and moves each claim one pitch on. -/
theorem OwnView.Claims.sighted {s : State} (h : s.own.Claims s.cfg.entryOffset) (hf : s.cfg.Fit)
    (ht : s.TrackLaw) (pins : StrobePins) : (s.sighted pins).own.Claims (s.cfg.entryOffset + 1) := by
  have hretire := hf.retire
  have hpast : s.cfg.entryOffset ≤ s.cfg.probeDistance := by unfold Image.probeDistance; omega
  have hnext (m : Mark) (hm : m ∈ s.own.marks) :
      distance (s.clk.n + 1) m.pitch = distance s.clk.n m.pitch + 1 := by
    obtain ⟨j, hj, rfl⟩ := List.mem_map.mp hm
    exact ht.dist_advance hj
  have hdistinct : (s.sighted pins).own.Distinct :=
    (ht.sighted hretire.2 (Nat.zero_lt_of_lt hretire.1) pins).distinct
  have hnew : (if pins.eye then [(⟨s.clk.n + 1, false, false⟩ : Mark)] else []).countP Mark.claimed = 0 := by
    split <;> rfl
  have hclaimed : ((s.sighted pins).own.marks).countP Mark.claimed = s.own.marks.countP Mark.claimed := by
    rw [State.own_sighted, List.countP_append, hnew, List.countP_filter, Nat.add_zero]
    refine List.countP_congr fun m hm => ?_
    simp only [Bool.and_eq_true, decide_eq_true_eq]
    refine ⟨And.left, fun hc => ⟨hc, ?_⟩⟩
    have hshort := (h.short m hm hc).1
    rw [hnext m hm]
    simp only [State.own] at hshort
    omega
  refine ⟨hdistinct, ?_, ?_, fun m hm hc => ?_⟩
  · rw [hclaimed, State.own_sighted]
    exact h.count
  · rw [State.own_sighted]
    exact h.limit
  · rw [State.own_sighted] at hm ⊢
    rcases List.mem_append.mp hm with hm | hm
    · obtain ⟨hm, -⟩ := List.mem_filter.mp hm
      obtain ⟨hshort, hrun⟩ := h.short m hm hc
      refine ⟨?_, hrun⟩
      have hone := hnext m hm
      simp only [State.own] at hshort ⊢
      omega
    · split at hm
      · obtain rfl := List.mem_singleton.mp hm
        cases hc
      · simp at hm

end Sys2Proof.Machine
end


section
/-! PROOF. The claim law (O57), move by move. -/

namespace Sys2Proof.Machine

variable {s t : State} {c : Instr}

/-- The claim law through a strobe: E + 1 bounds the claims until ENGAGE has had its turn, and E after it. -/
theorem OwnView.Claims.strobe (h : s.own.Claims s.cfg.entryOffset) (hf : s.cfg.Fit) (ht : s.TrackLaw)
    (pins : StrobePins) : (s.strobe pins).own.Claims s.cfg.entryOffset := by
  have hcfg : (s.sighted pins).cfg = s.cfg := by rw [State.sighted_frame]
  have haged := h.sighted hf ht pins
  have hlapsed : (s.sighted pins).lapseChecks.own.Claims (s.cfg.entryOffset + 1) := by
    rwa [State.own_lapseChecks haged.distinct]
  have hvacated := hlapsed.vacateChuck
  have hedits : Edits true (s.sighted pins) (s.sighted pins).lapseChecks.vacateChuck :=
    Edits.refl.lapseChecks.vacateChuck
  have hcfg' := hedits.standing.cfg.trans hcfg
  rw [← hcfg'] at hvacated
  have hengaged := hvacated.engageOrFall pins
  have hcfg'' := ((hedits.engageOrFall pins).dropStale.endDraws).standing.cfg.trans hcfg
  rw [hcfg', ← hcfg''] at hengaged
  have htested := OwnView.Claims.claimTest
    (s := ((((s.sighted pins).lapseChecks.vacateChuck).engageOrFall pins).dropStale).endDraws) hengaged
  rw [hcfg''] at htested
  have hstaged := htested.stageWork pins
  have hprobed := State.own_probe hstaged.distinct pins ▸ hstaged
  refine hprobed.exitDecision fun hg => ?_
  have hcfg3 := ((((((hedits.engageOrFall pins).dropStale).endDraws).claimTest).stageWork pins).probe
    pins).standing.cfg.trans hcfg
  rw [hcfg3] at hg ⊢
  have hexit := (hf.exit hg).1
  unfold Image.probeDistance at hexit
  omega

theorem OwnView.Claims.deliver {b : Nat} (h : s.own.Claims b) (f : RxFrame) : (s.deliver f).own.Claims b := by
  rcases State.own_deliver h.distinct f with hsame | ⟨j, hj, hst, hgone⟩
  · rwa [hsame]
  · rw [hgone]
    exact h.givenUp hj hst

theorem OwnView.Claims.work (h : s.own.Claims s.cfg.entryOffset) (hw : Work s t) :
    t.own.Claims s.cfg.entryOffset := by
  cases hw with
  | lapse p => rwa [State.own_lapseOne h.distinct]
  | valve => exact h
  | sample tau => exact h.takeSample tau
  | angle => exact h.takeAngle
  | expiry hc hd => exact h.endDriveStage
  | returned hc => exact h.head _
  | draws f => exact h
  | sent l hq k =>
    rw [State.own_refresh]
    exact h
  | frame l hq f ho =>
    have hline : ({ s with line := l }.noteInStep f.sender f.kind).own = s.own := by
      rw [State.own_noteInStep]
      rfl
    rw [← hline] at h
    exact h.deliver f
  | skewed l hq k =>
    rw [State.own_takeSkewed]
    exact h

/-- A station with no record and no claim meets the claim law. -/
theorem State.ClaimLaw.of_nil (h : t.track = []) (hc : t.claims.openClaims = 0) : t.ClaimLaw := by
  unfold State.ClaimLaw
  rw [h, hc]
  exact ⟨rfl, Nat.zero_le _, fun j hj => by cases hj⟩

theorem State.withdraw_claimLaw {u : State} (h : u.TrackLaw) (why : FaultInput) : (u.withdraw why).ClaimLaw := by
  have hclaims := State.withdraw_claims h.distinct why u.cfg.entryOffset
  rw [State.claimLaw_iff hclaims.distinct, State.cfg, State.withdraw_ctl]
  exact hclaims

theorem Move.claimLaw (h : Move c s t) (hc : s.ConfigLaw) (ht : s.TrackLaw) (hs : s.ClaimLaw) : t.ClaimLaw := by
  have hview := (State.claimLaw_iff ht.distinct).mp hs
  cases h with
  | power straps pair hp => exact .of_nil rfl rfl
  | desk hd =>
    by_cases hr : s.inRun = true
    · have hctl := (hd.run hr).1
      have hdt : t.own.Distinct := by
        have hmarks : t.own.marks = s.own.marks := by rw [hd.rest]; rfl
        rw [OwnView.Distinct, hmarks]
        exact ht.distinct
      rw [State.claimLaw_iff hdt, State.cfg, hctl]
      rw [hd.rest]
      exact hview.congr (by simp [State.own, hctl]) (by simp [State.own, State.cfg, hctl]) rfl rfl rfl
    · have hno : ∀ m ∈ s.own.marks, m.claimed = false := fun m hm => by
        by_contra hcl
        exact hr (s.inRun_of_run (hview.short m hm (by simpa using hcl)).2)
      obtain ⟨hcount, hlimit, -⟩ := hs
      have htrack : t.track = s.track := by rw [hd.rest]
      have hclaims : t.claims = s.claims := by rw [hd.rest]
      refine ⟨by rw [hclaims, htrack]; exact hcount, by rw [hclaims, State.cfg, hd.taken]; exact hlimit, ?_⟩
      intro j hj hcl
      have hfree := hno j.mark (State.mark_mem (htrack ▸ hj))
      rw [show j.mark.claimed = true from hcl] at hfree
      cases hfree
  | line l k hl hk => exact hs
  | clock x hn ha =>
    rw [State.claimLaw_iff (s := { s with clk := x }) ht.distinct]
    exact hview.congr rfl rfl hn rfl rfl
  | strobe x pins hr hn ha =>
    have hx : State.TrackLaw { s with clk := x } := ht.of_pitches rfl hn rfl
    have hstrobe := OwnView.Claims.strobe (s := { s with clk := x }) (hview.congr rfl rfl hn rfl rfl)
      (hc.fit hr) hx pins
    rw [State.claimLaw_iff hstrobe.distinct, State.cfg, State.strobe_ctl]
    exact hstrobe
  | work hr h =>
    have hwork := hview.work h
    rw [State.claimLaw_iff hwork.distinct, h.edits.standing.cfg]
    exact hwork
  | stop x p cause hr => rw [State.runStop_frame]; exact .of_nil rfl rfl
  | fault l p cause hm => rw [State.enterFault_frame]; exact .of_nil rfl rfl
  | start p cap hm hs => rw [State.start_frame]; exact .of_nil rfl rfl
  | startJam p cap hm hs hj =>
    exact State.withdraw_claimLaw (.of_nil (by rw [State.start_frame])) _
  | giveUp p why hm =>
    exact State.withdraw_claimLaw ((Edits.refl (b := true)).giveUpCycle.trackLaw (s := { s with pins := p }) ht) _

end Sys2Proof.Machine

namespace Sys2Proof.Proofs
open Sys2Proof.Machine

/-- Settles O57: a claim and its count come and go in one action, and ENGAGE takes the claim that reaches E. -/
theorem claimLawKept : Obligations.ClaimLawKept := by
  intro s t hc ht hs hstep
  rcases step_cases hstep with rfl | ⟨c, rest, -, hmove⟩
  · exact hs
  · exact hmove.claimLaw hc ht hs

end Sys2Proof.Proofs
end


section
/-! PROOF. The laws of spacing and chuck (R49, R108) over the view of the own jars, and the operations of the
cycle under them. -/

namespace Sys2Proof.Machine

/-! ### The stage plan of a run -/

/-- What the stages of a plan rest on: the retries end short of FLUSH, the stages have their lengths, and the
cycle fits the window (R104, R105). -/
structure Plan.Sound (i : Image) (p : Plan) : Prop where
  retries : p.retries < p.engage
  flush : 1 ≤ p.flush
  drive : 1 ≤ p.drive
  total : p.total = p.engage + p.flush + p.drive + p.hold + 2
  window : p.total ≤ i.window

theorem Image.Fit.plan {i : Image} (h : i.Fit) : (planOf i).Sound i := by
  have hbase := h.base
  have hflush := h.flush
  have hdrive := h.drive
  unfold planOf
  constructor <;> dsimp only <;> omega

/-! ### The laws over the view -/

/-- A mark of an own record in CLAIMED or IN_CHUCK. -/
def Mark.own (m : Mark) : Prop := m.claimed = true ∨ m.chucked = true

/-- The chuck stands with no record: in LIFT, RETURNING or READY. -/
def Chuck.resting (c : Chuck) : Prop := c ∈ [Chuck.lift, Chuck.returning, Chuck.ready]

namespace OwnView

/-- Any two own records are L + Rt apart (R49). -/
def Spaced (v : OwnView) : Prop :=
  ∀ x ∈ v.marks, ∀ y ∈ v.marks, x.own → y.own → x.pitch ≠ y.pitch →
    v.plan.total + v.cfg.returnPitches ≤ apart (distance v.n x.pitch) (distance v.n y.pitch)

/-- The IN_CHUCK record is the one of the cycle pitch (R108). -/
def Chucked (v : OwnView) : Prop := ∀ m ∈ v.marks, m.chucked = true ↔ v.cycle = some m.pitch

/-- The distance at which the stage of the chuck ends (R105). -/
def stageEnd (v : OwnView) : Nat :=
  match v.chuck with
  | .engage => flushBegin v.cfg v.plan
  | .flush => seatBegin v.cfg v.plan
  | .seat => driveBegin v.cfg v.plan
  | .drive => holdBegin v.cfg v.plan
  | .hold => liftBegin v.cfg v.plan
  | .lift => cycleEnd v.cfg v.plan
  | .returning => 0
  | .ready => 0

/-- Where the engaged jar stands between strobes: at or past E, short of its stage's end, and in ENGAGE with
the retries left ending short of FLUSH (R105, R110). -/
def settled (v : OwnView) (d : Nat) : Prop :=
  v.cfg.entryOffset ≤ d ∧ d < v.stageEnd
    ∧ (v.chuck = .engage → v.capFound = false → d + v.retriesLeft + 1 < flushBegin v.cfg v.plan)

/-- Where it stands when a strobe has moved it on and the stages have not yet had their turn. -/
def aged (v : OwnView) (d : Nat) : Prop :=
  v.cfg.entryOffset < d ∧ d ≤ v.stageEnd
    ∧ (v.chuck = .engage → v.capFound = false → d + v.retriesLeft < flushBegin v.cfg v.plan)

/-- The same once a LIFT at its end has made way. -/
def vacated (v : OwnView) (d : Nat) : Prop :=
  v.aged d ∧ (v.chuck = .lift → d < cycleEnd v.cfg v.plan)

/-- The same once ENGAGE has had its turn: a jar it has just taken stands at E. -/
def due (v : OwnView) (d : Nat) : Prop := v.vacated d ∨ (d = v.cfg.entryOffset ∧ v.settled d)

/-- The laws of spacing and chuck together, with the place of the engaged jar. -/
structure Cycle (place : Nat → Prop) (v : OwnView) : Prop where
  distinct : v.Distinct
  spaced : v.Spaced
  chucked : v.Chucked
  place : ∀ p, v.cycle = some p → p ∈ v.marks.map Mark.pitch ∧ place (distance v.n p) ∧ v.mode = .run
  rest : v.cycle = none → v.chuck.resting

end OwnView

/-! ### The state laws and the view's -/

theorem State.stagePlace_iff (s : State) (d : Nat) : s.stagePlace d = true ↔ s.own.settled d := by
  unfold State.stagePlace OwnView.settled OwnView.stageEnd
  simp only [State.own, Bool.and_eq_true, decide_eq_true_eq]
  cases hc : s.head.chuck <;> cases hf : s.head.capFound <;> simp [State.cfg]

theorem State.spacingLaw_iff {s : State} (hd : s.own.Distinct) : s.SpacingLaw ↔ s.own.Spaced := by
  have happart (a b : Nat) : apart a b = apart b a := by unfold apart; omega
  have hnodup : s.track.Nodup := List.Nodup.of_map Jar.mark (List.Nodup.of_map Mark.pitch hd)
  have hpair : s.SpacingLaw ↔ ∀ x ∈ s.track, ∀ y ∈ s.track, x ≠ y →
      (x.isClaimed || x.isInChuck) = true → (y.isClaimed || y.isInChuck) = true →
        s.head.plan.total + s.cfg.returnPitches ≤ apart (s.dist x.pitch) (s.dist y.pitch) := by
    refine ⟨fun h x hx y hy hne => ?_, fun h => hnodup.pairwise_of_forall_ne h⟩
    have hsymm : Std.Symm (fun x y : Jar => (x.isClaimed || x.isInChuck) = true →
        (y.isClaimed || y.isInChuck) = true →
        s.head.plan.total + s.cfg.returnPitches ≤ apart (s.dist x.pitch) (s.dist y.pitch)) :=
      ⟨fun x y h hy hx => by rw [happart]; exact h hx hy⟩
    exact List.Pairwise.forall h hx hy hne
  rw [hpair]
  constructor
  · intro h a ha b hb hoa hob hne
    obtain ⟨x, hx, rfl⟩ := List.mem_map.mp ha
    obtain ⟨y, hy, rfl⟩ := List.mem_map.mp hb
    exact h x hx y hy (fun he => hne (he ▸ rfl)) (by simpa [Mark.own, Jar.mark] using hoa)
      (by simpa [Mark.own, Jar.mark] using hob)
  · intro h x hx y hy hne hox hoy
    refine h x.mark (State.mark_mem hx) y.mark (State.mark_mem hy) (by simpa [Mark.own, Jar.mark] using hox)
      (by simpa [Mark.own, Jar.mark] using hoy) fun hp => hne ?_
    exact List.inj_on_of_nodup_map (f := Jar.pitch)
      (by simpa [OwnView.Distinct, State.own, Jar.mark, Function.comp_def] using hd) hx hy hp

theorem State.pitches_own (s : State) : s.own.marks.map Mark.pitch = s.track.map Jar.pitch := by
  simp only [State.own, List.map_map]
  rfl

theorem State.findJar_isSome_iff (s : State) (p : Word) :
    (s.findJar p).isSome = true ↔ p ∈ s.own.marks.map Mark.pitch := by
  rw [State.pitches_own, State.findJar, List.find?_isSome]
  simp only [List.mem_map, beq_iff_eq]

/-- The laws of spacing and chuck are the laws of the view, with the jar in its place. -/
theorem State.cycle_iff {s : State} (hd : s.own.Distinct) :
    s.SpacingLaw ∧ s.ChuckLaw ↔ s.own.Cycle s.own.settled := by
  have hplace : s.cyclePlace = true ↔
      (∀ p, s.own.cycle = some p →
        p ∈ s.own.marks.map Mark.pitch ∧ s.own.settled (distance s.own.n p) ∧ s.own.mode = .run)
      ∧ (s.own.cycle = none → s.own.chuck.resting) := by
    unfold State.cyclePlace
    split
    · rename_i p hp
      simp only [Bool.and_eq_true, decide_eq_true_eq, State.findJar_isSome_iff, State.stagePlace_iff]
      simp only [State.own, hp, State.dist]
      simp [and_assoc]
    · rename_i hp
      simp only [decide_eq_true_eq]
      simp only [State.own, hp]
      simp [Chuck.resting]
  have hchucked : (∀ j ∈ s.track, j.isInChuck = true ↔ s.head.cyclePitch = some j.pitch) ↔ s.own.Chucked := by
    constructor
    · intro h m hm
      obtain ⟨j, hj, rfl⟩ := List.mem_map.mp hm
      exact h j hj
    · exact fun h j hj => h j.mark (State.mark_mem hj)
  constructor
  · rintro ⟨hs, hc, hp⟩
    obtain ⟨hin, hout⟩ := hplace.mp hp
    exact ⟨hd, (State.spacingLaw_iff hd).mp hs, hchucked.mp hc, hin, hout⟩
  · rintro ⟨-, hs, hc, hin, hout⟩
    exact ⟨(State.spacingLaw_iff hd).mpr hs, hchucked.mpr hc, hplace.mpr ⟨hin, hout⟩⟩

/-! ### Changes of the view -/

namespace OwnView

section Changes

variable {P Q : Nat → Prop} {v w : OwnView} {m m' : Mark}

/-- A mark put where it makes no new own record keeps the spacing. -/
theorem Spaced.put (h : v.Spaced) (hm : m ∈ v.marks) (hp : m'.pitch = m.pitch) (ho : m'.own → m.own) :
    (v.put m').Spaced := by
  have hback (x : Mark) (hx : x ∈ (v.put m').marks) (hox : x.own) : ∃ y ∈ v.marks, y.pitch = x.pitch ∧ y.own := by
    rcases mem_put hx with rfl | ⟨hx, -⟩
    · exact ⟨m, hm, hp.symm, ho hox⟩
    · exact ⟨x, hx, rfl, hox⟩
  intro x hx y hy hox hoy hne
  obtain ⟨x', hx', hpx, hox'⟩ := hback x hx hox
  obtain ⟨y', hy', hpy, hoy'⟩ := hback y hy hoy
  have hsp := h x' hx' y' hy' hox' hoy' (by rwa [hpx, hpy])
  rwa [hpx, hpy] at hsp

namespace Cycle

variable (h : v.Cycle P)
include h

theorem mono (hq : ∀ p, v.cycle = some p → P (distance v.n p) → Q (distance v.n p)) : v.Cycle Q where
  distinct := h.distinct
  spaced := h.spaced
  chucked := h.chucked
  place p hp := ⟨(h.place p hp).1, hq p hp (h.place p hp).2.1, (h.place p hp).2.2⟩
  rest := h.rest

/-- A cycle that goes on, in another stage or with another count of the head. -/
theorem stage (c : Chuck) (found : Bool) (r : Nat) (hq : ∀ p, v.cycle = some p → P (distance v.n p) →
    Q (distance v.n p)) (hr : v.cycle = none → c.resting) :
    Cycle Q { v with chuck := c, capFound := found, retriesLeft := r } where
  distinct := h.distinct
  spaced := h.spaced
  chucked := h.chucked
  place p hp := ⟨(h.place p hp).1, hq p hp (h.place p hp).2.1, (h.place p hp).2.2⟩
  rest := hr

/-- The record of the cycle leaves the chuck, and the cycle pitch goes with it. -/
theorem leave {p : Word} (hc : v.cycle = some p) (hm : ⟨p, false, true⟩ ∈ v.marks) (c : Chuck) (hr : c.resting) :
    Cycle Q { v.put ⟨p, false, false⟩ with cycle := none, chuck := c } where
  distinct := h.distinct.put _
  spaced := h.spaced.put hm rfl (fun ho => by rcases ho with ho | ho <;> cases ho)
  chucked x hx := by
    rcases mem_put hx with rfl | ⟨hx, hne⟩
    · simp
    · have hold := h.chucked x hx
      simp only [hc, Option.some.injEq] at hold
      simp [hold, Ne.symm hne]
  place _ hp := by cases hp
  rest _ := hr

/-- A chuck without a record moves among LIFT, RETURNING and READY. -/
theorem idle (hc : v.cycle = none) (c : Chuck) (hr : c.resting) :
    Cycle Q { v with cycle := none, chuck := c } where
  distinct := h.distinct
  spaced := h.spaced
  chucked x hx := by
    have hold := h.chucked x hx
    rwa [hc] at hold
  place _ hp := by cases hp
  rest _ := hr

/-- A record that is neither put in the chuck nor taken from it, and is no new own record unless spaced. -/
theorem put (k : Nat) (hm : m ∈ v.marks) (hp : m'.pitch = m.pitch) (hc : m'.chucked = m.chucked)
    (hs : (v.put m').Spaced) : Cycle P { v.put m' with openClaims := k } where
  distinct := h.distinct.put _
  spaced := hs
  chucked x hx := by
    rcases mem_put hx with rfl | ⟨hx, -⟩
    · have hold := h.chucked m hm
      rwa [← hc, ← hp] at hold
    · exact h.chucked x hx
  place p hpc := by
    have hplace := h.place p hpc
    exact ⟨by rw [put_pitches]; exact hplace.1, hplace.2⟩
  rest := h.rest

end Cycle

end Changes

end OwnView

/-! ### The record in the chuck -/

namespace OwnView.Cycle

variable {P Q : Nat → Prop} {s : State}

/-- With a cycle pitch the record in the chuck is found. -/
theorem chuckJar {p : Word} (h : s.own.Cycle P) (hc : s.head.cyclePitch = some p) :
    ∃ (j : Jar) (m : Measurements), s.chuckJar? = some (j, m) ∧ j.pitch = p := by
  have hfind := (s.findJar_isSome_iff p).mpr (h.place p hc).1
  obtain ⟨j, hj⟩ := Option.isSome_iff_exists.mp hfind
  obtain ⟨hmem, hp⟩ := s.findJar_some hj
  have hin : j.isInChuck = true := (h.chucked j.mark (State.mark_mem hmem)).mpr (by rw [← hp] at hc; exact hc)
  unfold Jar.isInChuck at hin
  split at hin
  · rename_i m hm
    exact ⟨j, m, by simp [State.chuckJar?, hc, hj, hm], hp⟩
  · cases hin

theorem no_cycle (h : s.own.Cycle P) (hn : s.chuckJar? = none) : s.own.cycle = none := by
  cases hc : s.own.cycle with
  | none => rfl
  | some p =>
    obtain ⟨j, m, hj, -⟩ := h.chuckJar hc
    rw [hn] at hj
    cases hj

/-- Whatever becomes of the record in the chuck, the chuck may leave it for a resting state. -/
theorem leaveJar {j : Jar} {m : Measurements} (h : s.own.Cycle P) (hj : s.chuckJar? = some (j, m)) (c : Chuck)
    (hr : c.resting) : Cycle Q { s.own.put ⟨j.pitch, false, false⟩ with cycle := none, chuck := c } := by
  obtain ⟨hmark, hc, -⟩ := State.chuckJar_mark hj
  exact h.leave hc hmark c hr

theorem toPick_resting (i : Image) : (if i.returnPitches = 0 then Chuck.ready else Chuck.returning).resting := by
  split <;> simp [Chuck.resting]

theorem lift_resting : Chuck.lift.resting := by simp [Chuck.resting]

theorem noCap (h : s.own.Cycle P) : s.noCap.own.Cycle Q := by
  unfold State.noCap
  split
  · rename_i j m hj
    rw [State.own_toPick, State.own_count, State.own_giveBack]
    exact h.leaveJar hj _ (toPick_resting _)
  · rename_i hn
    rw [State.own_toPick]
    exact h.idle (h.no_cycle hn) _ (toPick_resting _)

/-- A cap check keeps the jar short of FLUSH, or gives it back (R110). -/
theorem capCheck (h : s.own.Cycle P) (hc : s.head.chuck = .engage) (cap : Bool)
    (hp : ∀ d, P d → s.cfg.entryOffset ≤ d ∧ d + s.head.retriesLeft < flushBegin s.cfg s.head.plan) :
    (s.capCheck cap).own.Cycle (s.capCheck cap).own.settled := by
  have hrest (hn : s.own.cycle = none) : s.own.chuck.resting := h.rest hn
  unfold State.capCheck
  split
  · refine h.stage s.own.chuck true s.own.retriesLeft (fun p _ hd => ?_) hrest
    obtain ⟨hge, hlt⟩ := hp _ hd
    refine ⟨hge, ?_, fun _ hf => by cases hf⟩
    simp only [OwnView.stageEnd, State.own, hc]
    exact Nat.lt_of_le_of_lt (Nat.le_add_right _ _) hlt
  · split
    · rename_i hr
      refine h.stage s.own.chuck s.own.capFound (s.head.retriesLeft - 1) (fun p _ hd => ?_) hrest
      obtain ⟨hge, hlt⟩ := hp _ hd
      refine ⟨hge, ?_, fun _ _ => ?_⟩
      · simp only [OwnView.stageEnd, State.own, hc]
        exact Nat.lt_of_le_of_lt (Nat.le_add_right _ _) hlt
      · change _ + (s.head.retriesLeft - 1) + 1 < _
        rw [Nat.add_assoc, Nat.sub_add_cancel hr]
        exact hlt
    · exact h.noCap

theorem endLift (h : s.own.Cycle P) : s.endLift.own.Cycle Q := by
  unfold State.endLift
  split
  · rename_i j m hj
    rw [State.own_toPick, State.own_putJar]
    exact h.leaveJar hj _ (toPick_resting _)
  · rename_i hn
    rw [State.own_toPick]
    exact h.idle (h.no_cycle hn) _ (toPick_resting _)

/-- A strobe of RETURNING, with no record in the chuck. -/
theorem returnStep (h : s.own.Cycle P) (hn : s.own.cycle = none) : s.returnStep.own.Cycle Q := by
  have hrest : (if s.head.returnLeft ≤ 1 then Chuck.ready else Chuck.returning).resting := by
    split <;> simp [Chuck.resting]
  have hidle : Cycle Q { s.own with cycle := none, chuck := _ } := h.idle hn _ hrest
  rwa [← hn] at hidle

/-- The end of LIFT, planned or early, and the strobes of RETURNING (R119, R120). -/
theorem vacateChuck (h : s.own.Cycle s.own.aged) : s.vacateChuck.own.Cycle s.vacateChuck.own.vacated := by
  have hother (hne : s.head.chuck ≠ .lift) : s.own.Cycle s.own.vacated :=
    h.mono fun _ _ hd => ⟨hd, fun hl => absurd hl hne⟩
  unfold State.vacateChuck
  split
  · rename_i hl
    split
    · exact h.endLift
    · rename_i p hp
      split
      · exact h.endLift
      · rename_i hne
        refine h.mono fun q hq hd => ⟨hd, fun _ => ?_⟩
        obtain rfl : p = q := Option.some.inj (hp.symm.trans hq)
        have hle := hd.2.1
        simp only [OwnView.stageEnd, State.own, hl] at hle
        exact Nat.lt_of_le_of_ne hle hne
  · rename_i hr
    refine h.returnStep ?_
    cases hc : s.own.cycle with
    | none => rfl
    | some p =>
      obtain ⟨-, ⟨hlt, hle, -⟩, -⟩ := h.place p hc
      have hend : s.own.stageEnd = 0 := by simp [OwnView.stageEnd, State.own, hr]
      omega
  all_goals
    rename_i hc
    exact hother (by rw [hc]; decide)

/-! ### ENGAGE start -/

/-- With a claim at E no record is in the chuck: the spacing has it past the cycle's end (R49, R108). -/
theorem free_at_entry {j : Jar} (h : s.own.Cycle s.own.vacated) (hplan : s.head.plan.Sound s.cfg)
    (hj : s.jarToEngage? = some j) : s.own.cycle = none := by
  obtain ⟨hmark, hd⟩ := State.jarToEngage_mark hj
  cases hc : s.own.cycle with
  | none => rfl
  | some p =>
    obtain ⟨hp, ⟨⟨hgt, hle, -⟩, hlift⟩, -⟩ := h.place p hc
    obtain ⟨x, hx, rfl⟩ := List.mem_map.mp hp
    have hin : x.chucked = true := (h.chucked x hx).mpr hc
    have hne : x.pitch ≠ j.pitch := fun he => by
      have hx0 := h.distinct.unique hx hmark he
      rw [hx0] at hin
      cases hin
    have hfar := h.spaced x hx _ hmark (.inr hin) (.inl rfl) hne
    have htotal := hplan.total
    simp only [State.dist] at hd
    simp only [State.own, apart, hd] at hfar hgt
    exfalso
    have hshort : distance s.clk.n x.pitch < cycleEnd s.cfg s.head.plan := by
      simp only [OwnView.stageEnd, State.own] at hle hlift
      cases hch : s.head.chuck <;> rw [hch] at hle hlift
      case lift => exact hlift rfl
      all_goals
        simp only [flushBegin, seatBegin, driveBegin, holdBegin, liftBegin, cycleEnd] at hle ⊢
        omega
    simp only [cycleEnd] at hshort
    omega

/-- A cycle begun: the record at E is the one in the chuck (R108). -/
theorem beginCycle {j : Jar} (h : s.own.Cycle P) (hn : s.own.cycle = none) (hrun : s.ctl.mode = .run)
    (hj : s.jarToEngage? = some j) : (s.beginCycle j).own.Cycle (fun d => d = s.cfg.entryOffset) := by
  obtain ⟨hmark, hd⟩ := State.jarToEngage_mark hj
  rw [State.own_beginCycle]
  refine ⟨h.distinct.put _, h.spaced.put hmark rfl (fun _ => .inl rfl), fun x hx => ?_, fun p hp => ?_, ?_⟩
  · rcases OwnView.mem_put hx with rfl | ⟨hx, hne⟩
    · simp
    · have hold := h.chucked x hx
      simp only [hn, reduceCtorEq, iff_false] at hold
      simp [hold, Ne.symm hne]
  · obtain rfl := Option.some.inj hp
    refine ⟨?_, hd, hrun⟩
    rw [OwnView.put_pitches]
    exact List.mem_map.mpr ⟨_, hmark, rfl⟩
  · intro hcontra
    cases hcontra

theorem engageOrFall (h : s.own.Cycle s.own.vacated) (hplan : s.head.plan.Sound s.cfg) (pins : StrobePins) :
    (s.engageOrFall pins).own.Cycle (s.engageOrFall pins).own.due := by
  unfold State.engageOrFall
  split
  · rename_i j hj
    split at hj
    · rename_i hrun
      have hn := h.free_at_entry hplan hj
      have hbegin := h.beginCycle hn hrun hj
      unfold State.engageStart
      dsimp only
      split
      · rw [State.own_alreadyCapped]
        have hcycle : (s.beginCycle j).own.cycle = some j.pitch := by rw [State.own_beginCycle]
        exact hbegin.leave hcycle (State.beginCycle_mark hj) _ lift_resting
      · have hchuck : (s.beginCycle j).head.chuck = .engage := rfl
        have hcheck := hbegin.capCheck hchuck pins.capInChuck fun d hd => by
          have hretries := hplan.retries
          subst hd
          refine ⟨le_rfl, ?_⟩
          change s.cfg.entryOffset + s.head.plan.retries < s.cfg.entryOffset + s.head.plan.engage
          omega
        refine hcheck.mono fun p hp hd => .inr ⟨?_, hd⟩
        have hstand := (Edits.refl (b := true) (s := s.beginCycle j)).capCheck pins.capInChuck
        have hpitch : (s.beginCycle j).own.cycle = some p := by
          unfold State.capCheck at hp
          split at hp
          · exact hp
          · split at hp
            · exact hp
            · unfold State.noCap at hp
              split at hp <;> cases hp
        have hplace := (hbegin.place p hpitch).2.1
        rw [show ((s.beginCycle j).capCheck pins.capInChuck).own.n = (s.beginCycle j).own.n from
          congrArg Clock.n hstand.standing.clk]
        rw [hplace]
        exact (congrArg Image.entryOffset hstand.standing.cfg).symm
    · cases hj
  · exact h.mono fun _ _ hd => .inl hd

end OwnView.Cycle

end Sys2Proof.Machine
end


section
/-! PROOF. The laws of spacing and chuck (O58) through the claim test, the stages, the drive and the strobe, and
move by move. -/

namespace Sys2Proof.Machine

namespace OwnView

variable {P Q : Nat → Prop} {s t : State}

/-! ### The claim test -/

/-- A claim that the spacing test has passed stands L + Rt from every own record (R49). -/
theorem Spaced.claim {j : Jar} (h : s.own.Spaced) (hsp : spacingTest s j = true) :
    (s.own.put ⟨j.pitch, true, false⟩).Spaced := by
  simp only [spacingTest, Bool.and_eq_true, List.all_eq_true] at hsp
  have hfar (x : Mark) (hx : x ∈ s.own.marks) (ho : x.own) :
      s.head.plan.total + s.cfg.returnPitches ≤ apart (s.dist x.pitch) (s.dist j.pitch) := by
    obtain ⟨y, hy, rfl⟩ := List.mem_map.mp hx
    have hall := hsp.1 y hy
    have hoy : (y.isClaimed || y.isInChuck) = true := (Bool.or_eq_true _ _).mpr ho
    rw [hoy] at hall
    simpa [Jar.mark] using hall
  have happart (a b : Nat) : apart a b = apart b a := by unfold apart; omega
  intro x hx y hy hox hoy hne
  rcases mem_put hx with rfl | ⟨hx, -⟩ <;> rcases mem_put hy with rfl | ⟨hy, -⟩
  · exact absurd rfl hne
  · rw [happart]
    exact hfar y hy hoy
  · exact hfar x hx hox
  · exact h x hx y hy hox hoy hne

theorem Cycle.claimOne (h : s.own.Cycle s.own.due) (p : Word) :
    (s.claimOne p).own.Cycle (s.claimOne p).own.due := by
  rcases s.claimOne_cases p with hsame | ⟨j, hj, -, hopen, -, hsp, hmake⟩
  · rwa [hsame]
  · rw [hmake, State.own_makeClaim]
    have hmark : ⟨j.pitch, false, false⟩ ∈ s.own.marks := Jar.mark_open hopen ▸ State.mark_mem hj
    exact h.put _ hmark rfl rfl (h.spaced.claim hsp)

theorem Cycle.claimTest (h : s.own.Cycle s.own.due) : s.claimTest.own.Cycle s.claimTest.own.due :=
  s.claimTest_keeps (P := fun t => t.own.Cycle t.own.due) (fun _ p _ _ _ _ ht => ht.claimOne p) h

/-! ### The drive and the hold -/

end OwnView

/-- The end of a drive leaves the view, or lifts the chuck early from a jar with its verdict (R117, R142). -/
theorem State.own_endDrive {s : State} (hd : s.own.Distinct) (how : DriveEnd) :
    (s.endDrive how).own = s.own ∨ ∃ (j : Jar) (m : Measurements), s.chuckJar? = some (j, m)
      ∧ (s.endDrive how).own = { s.own.put ⟨j.pitch, false, false⟩ with cycle := none, chuck := .lift } := by
  unfold State.endDrive
  dsimp only
  split
  · exact .inl rfl
  · rename_i j m hc
    split
    · exact .inl rfl
    · obtain ⟨hj, -, -⟩ := s.chuckJar_some hc
      exact .inl (State.own_putJar_same (s := { s with head := { s.head with phase := .ended } }) hd hj rfl)
    · refine .inr ⟨j, m, hc, ?_⟩
      rw [State.own_earlyLift, State.own_setOwnVerdict]
      rfl

namespace OwnView

variable {P Q : Nat → Prop} {s t : State}

theorem Cycle.endDrive (h : s.own.Cycle s.own.settled) (how : DriveEnd) :
    (s.endDrive how).own.Cycle (s.endDrive how).own.settled := by
  rcases State.own_endDrive h.distinct how with hsame | ⟨j, m, hj, hleft⟩
  · rwa [hsame]
  · rw [hleft]
    exact h.leaveJar hj _ Cycle.lift_resting

/-- The hold end: LIFT as planned, or early with the verdict OVER (R118, R143). -/
theorem Cycle.holdEnd (h : s.own.Cycle P)
    (hp : ∀ d, P d → s.cfg.entryOffset ≤ d ∧ d < cycleEnd s.cfg s.head.plan) :
    s.holdEnd.own.Cycle s.holdEnd.own.settled := by
  have hlift {u : State} (hu : u.own = s.own) : u.plannedLift.own.Cycle u.plannedLift.own.settled := by
    have hview : u.plannedLift.own = { s.own with chuck := .lift } := by rw [← hu]; rfl
    rw [hview]
    refine h.stage .lift s.own.capFound s.own.retriesLeft (fun p _ hd => ?_) fun _ => Cycle.lift_resting
    exact ⟨(hp _ hd).1, (hp _ hd).2, fun he => by cases he⟩
  unfold State.holdEnd
  split
  · exact hlift rfl
  · rename_i j m hc
    obtain ⟨hj, -, -⟩ := s.chuckJar_some hc
    split
    · split
      · exact hlift (State.own_putJar_same h.distinct hj rfl)
      · rw [State.own_earlyLift, State.own_setOwnVerdict]
        exact h.leaveJar hc _ Cycle.lift_resting
    · exact hlift rfl

/-- What follows DRIVE at the HOLD begin distance (R117, R118). -/
theorem Cycle.leaveDrive (h : s.own.Cycle P) (hplan : s.head.plan.Sound s.cfg) (hc : s.head.chuck = .drive)
    (hp : ∀ d, P d → s.cfg.entryOffset ≤ d ∧ d = holdBegin s.cfg s.head.plan) :
    s.leaveDrive.own.Cycle s.leaveDrive.own.settled := by
  have htotal := hplan.total
  unfold State.leaveDrive
  split
  · refine h.holdEnd fun d hd => ⟨(hp d hd).1, ?_⟩
    have hat := (hp d hd).2
    simp only [holdBegin, driveBegin, seatBegin, flushBegin, cycleEnd] at hat ⊢
    omega
  · rename_i hhold
    refine h.stage .hold s.own.capFound s.own.retriesLeft (fun p _ hd => ?_) fun hn => ?_
    · obtain ⟨hge, hat⟩ := hp _ hd
      refine ⟨hge, ?_, fun he => by cases he⟩
      rw [hat]
      change holdBegin s.cfg s.head.plan < liftBegin s.cfg s.head.plan
      simp only [holdBegin, driveBegin, seatBegin, flushBegin, liftBegin]
      omega
    · have hrest := h.rest hn
      simp [Chuck.resting, State.own, hc] at hrest

theorem Cycle.endDriveStage (h : s.own.Cycle P) (hplan : s.head.plan.Sound s.cfg) (hc : s.head.chuck = .drive)
    (hp : ∀ d, P d → s.cfg.entryOffset ≤ d ∧ d = holdBegin s.cfg s.head.plan) :
    s.endDriveStage.own.Cycle s.endDriveStage.own.settled := by
  unfold State.endDriveStage
  dsimp only
  split
  · rcases State.own_endDrive h.distinct .expiry with hsame | ⟨j, m, hj, hleft⟩
    · have hchuck : (s.endDrive .expiry).head.chuck = .drive := (congrArg OwnView.chuck hsame).trans hc
      have hcfg : (s.endDrive .expiry).cfg = s.cfg := congrArg OwnView.cfg hsame
      have hplan' : (s.endDrive .expiry).head.plan = s.head.plan := congrArg OwnView.plan hsame
      rw [if_pos hchuck]
      exact Cycle.leaveDrive (hsame ▸ h) (by rwa [hcfg, hplan']) hchuck (by rwa [hcfg, hplan'])
    · have hchuck : (s.endDrive .expiry).head.chuck = .lift := congrArg OwnView.chuck hleft
      rw [if_neg (by rw [hchuck]; decide), hleft]
      exact h.leaveJar hj _ Cycle.lift_resting
  · exact h.leaveDrive hplan hc hp

/-! ### The stages of a strobe -/

theorem due.entry_le {v : OwnView} {d : Nat} (h : v.due d) : v.cfg.entryOffset ≤ d := by
  rcases h with ⟨⟨h, -, -⟩, -⟩ | ⟨h, -⟩ <;> omega

/-- Short of its stage's end, and out of the cap checks, a jar stays where it is in its place. -/
theorem due.settled {v : OwnView} {d : Nat} (h : v.due d) (hne : d ≠ v.stageEnd)
    (hf : v.chuck = .engage → v.capFound = true) : v.settled d := by
  rcases h with ⟨⟨hge, hle, -⟩, -⟩ | ⟨-, h⟩
  · exact ⟨Nat.le_of_lt hge, Nat.lt_of_le_of_ne hle hne, fun hc hfound => by simp [hf hc] at hfound⟩
  · exact h

/-- A stage begun where the one before it ends, with room before its own end. -/
theorem Cycle.nextStage (h : s.own.Cycle s.own.due) (c : Chuck) (hc : c ≠ .engage) {p : Word}
    (hp : s.own.cycle = some p)
    (hlt : distance s.own.n p < OwnView.stageEnd { s.own with chuck := c }) :
    Cycle (OwnView.settled { s.own with chuck := c }) { s.own with chuck := c } := by
  refine h.stage c s.own.capFound s.own.retriesLeft (fun q hq hd => ?_) fun hn => ?_
  · obtain rfl : p = q := Option.some.inj (hp.symm.trans hq)
    exact ⟨hd.entry_le, hlt, fun he => absurd he hc⟩
  · rw [hp] at hn
    cases hn

theorem Cycle.stageWork (h : s.own.Cycle s.own.due) (hplan : s.head.plan.Sound s.cfg) (pins : StrobePins) :
    (s.stageWork pins).own.Cycle (s.stageWork pins).own.settled := by
  unfold State.stageWork
  split
  · rename_i hn
    exact h.mono fun p hp => absurd (hn.symm.trans hp) (by simp)
  · rename_i p hp
    have hpc : s.own.cycle = some p := hp
    have hsame (hne : s.dist p ≠ s.own.stageEnd) (hf : s.head.chuck = .engage → s.head.capFound = true) :
        s.own.Cycle s.own.settled := by
      refine h.mono fun q hq hd => hd.settled ?_ hf
      obtain rfl : p = q := Option.some.inj (hpc.symm.trans hq)
      exact hne
    have hduep := (h.place p hpc).2.1
    dsimp only
    split
    · rename_i hc
      have hend : s.own.stageEnd = flushBegin s.cfg s.head.plan := by simp [OwnView.stageEnd, State.own, hc]
      split
      · rename_i hf
        split
        · rename_i hd
          rw [State.own_flushStart]
          refine h.nextStage .flush (by decide) hpc ?_
          change s.dist p < seatBegin s.cfg s.head.plan
          have hflush := hplan.flush
          unfold seatBegin
          omega
        · rename_i hd
          exact hsame (by rwa [hend]) fun _ => hf
      · rename_i hf
        split
        · rename_i hd
          refine h.mono fun q hq hdue => ?_
          obtain rfl : p = q := Option.some.inj (hpc.symm.trans hq)
          rcases hdue with ⟨⟨hlt, -, -⟩, -⟩ | ⟨-, hset⟩
          · exact absurd hd hlt.ne'
          · exact hset
        · rename_i hd
          have hfound : s.head.capFound = false := by simpa using hf
          have hmoved : s.own.Cycle fun d =>
              s.cfg.entryOffset ≤ d ∧ d + s.head.retriesLeft < flushBegin s.cfg s.head.plan := by
            refine h.mono fun q hq hdue => ?_
            obtain rfl : p = q := Option.some.inj (hpc.symm.trans hq)
            rcases hdue with ⟨⟨hlt, -, hleft⟩, -⟩ | ⟨hat, -⟩
            · exact ⟨hlt.le, hleft hc hfound⟩
            · exact absurd hat hd
          exact hmoved.capCheck hc _ fun _ hd => hd
    · rename_i hc
      have hend : s.own.stageEnd = seatBegin s.cfg s.head.plan := by simp [OwnView.stageEnd, State.own, hc]
      split
      · rename_i hd
        refine h.nextStage .seat (by decide) hpc ?_
        change s.dist p < driveBegin s.cfg s.head.plan
        unfold driveBegin
        omega
      · rename_i hd
        exact hsame (by rwa [hend]) fun he => by rw [hc] at he; cases he
    · rename_i hc
      have hend : s.own.stageEnd = driveBegin s.cfg s.head.plan := by simp [OwnView.stageEnd, State.own, hc]
      split
      · rename_i hd
        have hdrive : s.driveStart.own = { s.own with chuck := .drive } := by
          unfold State.driveStart
          dsimp only
          split
          · rename_i j m hj
            obtain ⟨hmem, hm, -⟩ := s.chuckJar_some hj
            refine State.own_putJar_same
              (s := { s with head := { s.head with chuck := .drive, phase := .running, seatReached := false } })
              (j := j) h.distinct hmem ?_
            simp [Jar.mark, Jar.isClaimed, Jar.isInChuck, hm]
          · rfl
        rw [hdrive]
        refine h.nextStage .drive (by decide) hpc ?_
        change s.dist p < holdBegin s.cfg s.head.plan
        have hlen := hplan.drive
        unfold holdBegin
        omega
      · rename_i hd
        exact hsame (by rwa [hend]) fun he => by rw [hc] at he; cases he
    · rename_i hc
      have hend : s.own.stageEnd = holdBegin s.cfg s.head.plan := by simp [OwnView.stageEnd, State.own, hc]
      split
      · rename_i hd
        have hat : s.own.Cycle fun d => s.cfg.entryOffset ≤ d ∧ d = holdBegin s.cfg s.head.plan := by
          refine h.mono fun q hq hdue => ?_
          obtain rfl : p = q := Option.some.inj (hpc.symm.trans hq)
          exact ⟨hdue.entry_le, hd⟩
        exact hat.endDriveStage hplan hc fun _ hd => hd
      · rename_i hd
        exact hsame (by rwa [hend]) fun he => by rw [hc] at he; cases he
    · rename_i hc
      have hend : s.own.stageEnd = liftBegin s.cfg s.head.plan := by simp [OwnView.stageEnd, State.own, hc]
      split
      · rename_i hd
        have hat : s.own.Cycle fun d => s.cfg.entryOffset ≤ d ∧ d < cycleEnd s.cfg s.head.plan := by
          refine h.mono fun q hq hdue => ?_
          obtain rfl : p = q := Option.some.inj (hpc.symm.trans hq)
          refine ⟨hdue.entry_le, ?_⟩
          change s.dist p < _
          have htotal := hplan.total
          unfold liftBegin at hd
          unfold cycleEnd
          omega
        exact hat.holdEnd fun _ hd => hd
      · rename_i hd
        exact hsame (by rwa [hend]) fun he => by rw [hc] at he; cases he
    · rename_i hc
      refine h.mono fun q _ hdue => ?_
      rcases hdue with ⟨⟨hlt, -, -⟩, hend⟩ | ⟨-, hset⟩
      · refine ⟨hlt.le, ?_, fun he => ?_⟩
        · simpa [OwnView.stageEnd, State.own, hc] using hend hc
        · rw [show s.own.chuck = .lift from hc] at he
          cases he
      · exact hset
    all_goals
      rename_i hc
      have hend : s.own.stageEnd = 0 := by simp [OwnView.stageEnd, State.own, hc]
      rcases hduep with ⟨⟨hlt, hle, -⟩, -⟩ | ⟨-, -, hlt, -⟩ <;> omega

/-! ### The rest of a strobe -/

/-- Aging the track moves the engaged jar one pitch on, and retires no own record (R32). -/
theorem Cycle.sighted (h : s.own.Cycle s.own.settled) (hf : s.cfg.Fit) (hplan : s.head.plan.Sound s.cfg)
    (ht : s.TrackLaw) (pins : StrobePins) : (s.sighted pins).own.Cycle (s.sighted pins).own.aged := by
  have hretire := hf.retire
  have hdistinct : (s.sighted pins).own.Distinct :=
    (ht.sighted hretire.2 (Nat.zero_lt_of_lt hretire.1) pins).distinct
  have hnext (m : Mark) (hm : m ∈ s.own.marks) :
      distance (s.clk.n + 1) m.pitch = distance s.clk.n m.pitch + 1 := by
    obtain ⟨j, hj, rfl⟩ := List.mem_map.mp hm
    exact ht.dist_advance hj
  have hnew : s.own.cycle ≠ some (s.clk.n + 1) := fun hc => by
    have hp := (h.place _ hc).1
    rw [State.pitches_own] at hp
    obtain ⟨j, hj, hpj⟩ := List.mem_map.mp hp
    exact ht.lacks_next j hj hpj
  have hold {x : Mark} (hx : x ∈ (s.sighted pins).own.marks) :
      x ∈ s.own.marks ∨ x = ⟨s.clk.n + 1, false, false⟩ := by
    rw [State.own_sighted] at hx
    rcases List.mem_append.mp hx with hx | hx
    · exact .inl (List.mem_filter.mp hx).1
    · split at hx
      · exact .inr (List.mem_singleton.mp hx)
      · simp at hx
  have hown {x : Mark} (hx : x ∈ (s.sighted pins).own.marks) (ho : x.own) : x ∈ s.own.marks := by
    rcases hold hx with hx | rfl
    · exact hx
    · rcases ho with ho | ho <;> cases ho
  have hview : (s.sighted pins).own = { s.own with
      n := s.clk.n + 1, marks := (s.sighted pins).own.marks } := by rw [State.own_sighted]
  refine ⟨hdistinct, fun x hx y hy hox hoy hne => ?_, fun x hx => ?_, fun p hp => ?_, fun hn => ?_⟩
  · have hsp := h.spaced x (hown hx hox) y (hown hy hoy) hox hoy hne
    rw [hview]
    simp only [apart, hnext x (hown hx hox), hnext y (hown hy hoy)]
    simp only [apart, State.own] at hsp ⊢
    omega
  · rw [hview]
    rcases hold hx with hx | rfl
    · exact h.chucked x hx
    · simpa using hnew
  · rw [hview] at hp ⊢
    obtain ⟨hmem, ⟨hge, hlt, hleft⟩, hrun⟩ := h.place p hp
    obtain ⟨x, hx, rfl⟩ := List.mem_map.mp hmem
    have hone := hnext x hx
    have hchucked : x.chucked = true := (h.chucked x hx).mpr hp
    have hplace : s.own.aged (distance (s.clk.n + 1) x.pitch) := by
      rw [hone]
      refine ⟨Nat.lt_succ_of_le hge, hlt, fun hc hfound => ?_⟩
      have := hleft hc hfound
      rw [show distance s.own.n x.pitch = distance s.clk.n x.pitch from rfl] at this
      omega
    refine ⟨List.mem_map.mpr ⟨x, ?_, rfl⟩, hplace, hrun⟩
    rw [State.own_sighted]
    refine List.mem_append_left _ (List.mem_filter.mpr ⟨hx, ?_⟩)
    have hend : s.own.stageEnd ≤ s.cfg.entryOffset + s.head.plan.total := by
      have htotal := hplan.total
      unfold OwnView.stageEnd
      simp only [State.own, flushBegin, seatBegin, driveBegin, holdBegin, liftBegin, cycleEnd]
      split <;> omega
    have hwindow := hplan.window
    have hle := hplace.2.1
    simp only [Image.probeDistance] at hretire
    rw [decide_eq_true_eq]
    omega
  · rw [hview] at hn ⊢
    exact h.rest hn

/-- No own record in the chuck has come to X (R155). -/
theorem Cycle.exitDecision (h : s.own.Cycle s.own.settled) (hf : s.cfg.Fit) (hplan : s.head.plan.Sound s.cfg) :
    s.exitDecision.own.Cycle s.exitDecision.own.settled := by
  unfold State.exitDecision
  split
  · rename_i hg
    split
    · exact h
    · rename_i j hj
      split
      · exact h
      · have hmem := List.mem_of_find?_eq_some hj
        have hd : s.dist j.pitch = s.cfg.bankExit := by simpa using List.find?_some hj
        have hfree : j.isInChuck = false := by
          by_contra hin
          have hc := (h.chucked j.mark (State.mark_mem hmem)).mp (by simpa [Jar.mark] using hin)
          have hlt := (h.place _ hc).2.1.2.1
          have hexit := (hf.exit hg).1
          have htotal := hplan.total
          have hwindow := hplan.window
          change s.dist j.pitch < _ at hlt
          simp only [OwnView.stageEnd, State.own, flushBegin, seatBegin, driveBegin, holdBegin, liftBegin,
            cycleEnd] at hlt
          simp only [Image.probeDistance] at hexit
          split at hlt <;> omega
        rw [State.own_gateInsert, State.own_count, State.own_putJar]
        refine h.put s.own.openClaims (State.mark_mem hmem) rfl hfree.symm ?_
        exact h.spaced.put (State.mark_mem hmem) rfl fun ho => by rcases ho with ho | ho <;> cases ho
  · exact h

/-- Each part of a strobe in its turn: the jar ages, LIFT makes way, ENGAGE takes the claim at E, the claims are
made, and the stages bring the jar to its place. -/
theorem Cycle.strobe (h : s.own.Cycle s.own.settled) (hf : s.cfg.Fit) (hplan : s.head.plan.Sound s.cfg)
    (ht : s.TrackLaw) (pins : StrobePins) : (s.strobe pins).own.Cycle (s.strobe pins).own.settled := by
  have hframe := s.sighted_frame pins
  have hcfg : (s.sighted pins).cfg = s.cfg := by rw [hframe]
  have hhead : (s.sighted pins).head = s.head := by rw [hframe]
  have hsound {u : State} (he : Edits true (s.sighted pins) u) : u.cfg = s.cfg ∧ u.head.plan.Sound u.cfg := by
    have hu := he.standing.cfg.trans hcfg
    refine ⟨hu, ?_⟩
    rwa [hu, he.standing.plan, hhead]
  have haged := h.sighted hf hplan ht pins
  have hlapsed : (s.sighted pins).lapseChecks.own.Cycle (s.sighted pins).lapseChecks.own.aged := by
    rwa [State.own_lapseChecks haged.distinct]
  have hvacated := hlapsed.vacateChuck
  have hedits : Edits true (s.sighted pins) (s.sighted pins).lapseChecks.vacateChuck :=
    Edits.refl.lapseChecks.vacateChuck
  have hengaged := hvacated.engageOrFall (hsound hedits).2 pins
  have htested := Cycle.claimTest
    (s := ((((s.sighted pins).lapseChecks.vacateChuck).engageOrFall pins).dropStale).endDraws) hengaged
  have hedits' := ((hedits.engageOrFall pins).dropStale).endDraws.claimTest
  have hstaged := htested.stageWork (hsound hedits').2 pins
  have hprobed := State.own_probe hstaged.distinct pins ▸ hstaged
  have hend := hsound ((hedits'.stageWork pins).probe pins)
  exact hprobed.exitDecision (hend.1 ▸ hf) hend.2

/-! ### Work between strobes -/

theorem Cycle.takeSample (h : s.own.Cycle s.own.settled) (tau : Byte) :
    (s.takeSample tau).own.Cycle (s.takeSample tau).own.settled := by
  unfold State.takeSample
  split
  · exact h
  · rename_i j m hc
    obtain ⟨hj, hm, -⟩ := s.chuckJar_some hc
    have hput (m' : Measurements) : (s.putJar { j with st := .inChuck m' }).own = s.own :=
      State.own_putJar_same h.distinct hj (by simp [Jar.mark, Jar.isClaimed, Jar.isInChuck, hm])
    have hkeep (m' : Measurements) : (s.putJar { j with st := .inChuck m' }).own.Cycle
        (s.putJar { j with st := .inChuck m' }).own.settled := by rwa [hput]
    have hseat (m' : Measurements) (x : Head) (hx : ∃ seat, x = { s.head with seatReached := seat }) :
        Cycle (State.own { s.putJar { j with st := .inChuck m' } with head := x }).settled
          (State.own { s.putJar { j with st := .inChuck m' } with head := x }) := by
      obtain ⟨seat, rfl⟩ := hx
      exact hkeep m'
    split
    · unfold State.sampleRunning
      dsimp only
      have hite {u w : State} {c : Prop} [Decidable c] (hu : u.own.Cycle u.own.settled)
          (hw : w.own.Cycle w.own.settled) :
          (if c then u else w).own.Cycle (if c then u else w).own.settled := by
        split
        · exact hu
        · exact hw
      exact hite (Cycle.endDrive (hseat _ _ ⟨_, rfl⟩) _)
        (hite (Cycle.endDrive (hseat _ _ ⟨_, rfl⟩) _) (hseat _ _ ⟨_, rfl⟩))
    · exact hkeep _
    · exact hkeep _
    · exact h

theorem Cycle.takeAngle (h : s.own.Cycle s.own.settled) : s.takeAngle.own.Cycle s.takeAngle.own.settled := by
  unfold State.takeAngle
  split
  · exact h
  · rename_i j m hc
    obtain ⟨hj, hm, -⟩ := s.chuckJar_some hc
    split
    · rwa [State.own_putJar_same h.distinct hj (by simp [Jar.mark, Jar.isClaimed, Jar.isInChuck, hm])]
    · exact h

theorem Cycle.deliver (h : s.own.Cycle s.own.settled) (f : RxFrame) :
    (s.deliver f).own.Cycle (s.deliver f).own.settled := by
  rcases State.own_deliver h.distinct f with hsame | ⟨j, hj, hst, hgone⟩
  · rwa [hsame]
  · have hmark : j.mark = ⟨j.pitch, true, false⟩ := by simp [Jar.mark, Jar.isClaimed, Jar.isInChuck, hst]
    have hmem : ⟨j.pitch, true, false⟩ ∈ s.own.marks := hmark ▸ State.mark_mem hj
    rw [hgone]
    exact h.put _ hmem rfl rfl (h.spaced.put hmem rfl fun _ => .inl rfl)

theorem Cycle.work (h : s.own.Cycle s.own.settled) (hw : Work s t) : t.own.Cycle t.own.settled := by
  cases hw with
  | lapse p => rwa [State.own_lapseOne h.distinct]
  | valve => exact h
  | sample tau => exact h.takeSample tau
  | angle => exact h.takeAngle
  | expiry hc hd =>
    cases hp : s.own.cycle with
    | none =>
      have hrest := h.rest hp
      simp [Chuck.resting, State.own, hc] at hrest
    | some p =>
      have hlt := (h.place p hp).2.1.2.1
      rw [State.atHoldBegin_of s hp] at hd
      simp only [OwnView.stageEnd, State.own, hc] at hlt
      omega
  | returned hc =>
    refine h.returnStep ?_
    cases hp : s.own.cycle with
    | none => rfl
    | some p =>
      have hlt := (h.place p hp).2.1.2.1
      simp [OwnView.stageEnd, State.own, hc] at hlt
  | draws f => exact h
  | sent l hq k =>
    rw [State.own_refresh]
    exact h
  | frame l hq f ho =>
    have hline : ({ s with line := l }.noteInStep f.sender f.kind).own = s.own := by
      rw [State.own_noteInStep]
      rfl
    rw [← hline] at h
    exact h.deliver f
  | skewed l hq k =>
    rw [State.own_takeSkewed]
    exact h

/-! ### The ends of a run -/

/-- A cycle given up leaves no record in the chuck (R122). -/
theorem Cycle.giveUpCycle (h : s.own.Cycle s.own.settled) :
    s.giveUpCycle.own.Cycle Q ∧ s.giveUpCycle.own.cycle = none := by
  have hout (hn : s.own.cycle = none) : s.own.Cycle Q ∧ s.own.cycle = none :=
    ⟨h.mono fun p hp => absurd (hn.symm.trans hp) (by simp), hn⟩
  have hworking : s.giveUpWorking.own.Cycle Q ∧ s.giveUpWorking.own.cycle = none := by
    refine ⟨?_, rfl⟩
    unfold State.giveUpWorking
    dsimp only
    split
    · rename_i j m hj
      have hback : ((s.giveBack j).count ctrAborted).own = s.own.put ⟨j.pitch, false, false⟩ := by
        rw [State.own_count, State.own_giveBack]
      have hleave := h.leaveJar (Q := Q) hj _ Cycle.lift_resting
      rw [← hback] at hleave
      exact hleave
    · rename_i hn
      exact h.idle (h.no_cycle hn) _ Cycle.lift_resting
  have hno (hend : s.own.stageEnd = 0) : s.own.cycle = none := by
    cases hp : s.own.cycle with
    | none => rfl
    | some p =>
      have hlt := (h.place p hp).2.1.2.1
      omega
  unfold State.giveUpCycle
  split
  · rename_i hc
    exact hout (hno (by simp [OwnView.stageEnd, State.own, hc]))
  · rename_i hc
    exact hout (hno (by simp [OwnView.stageEnd, State.own, hc]))
  · split
    · rename_i j m hj
      refine ⟨?_, rfl⟩
      rw [State.own_earlyLift, State.own_count, State.own_giveBack]
      exact h.leaveJar hj _ Cycle.lift_resting
    · rename_i hn
      exact hout (h.no_cycle hn)
  all_goals exact hworking

/-- With no record in the chuck a withdrawal keeps the laws: it gives claims back, and makes none (R66). -/
theorem Cycle.withdraw (h : s.own.Cycle P) (hn : s.own.cycle = none) (why : FaultInput) :
    (s.withdraw why).own.Cycle Q := by
  rw [State.own_withdraw]
  refine ⟨?_, ?_, ?_, fun p hp => ?_, h.rest⟩
  · rw [OwnView.Distinct, OwnView.unclaimed_pitches]
    exact h.distinct
  · intro x hx y hy hox hoy hne
    obtain ⟨x', hx', rfl⟩ := List.mem_map.mp hx
    obtain ⟨y', hy', rfl⟩ := List.mem_map.mp hy
    have hown {m : Mark} (ho : m.unclaimed.own) : m.own := by
      rcases ho with ho | ho
      · cases ho
      · exact .inr ho
    exact h.spaced x' hx' y' hy' (hown hox) (hown hoy) hne
  · intro x hx
    obtain ⟨x', hx', rfl⟩ := List.mem_map.mp hx
    exact h.chucked x' hx'
  · rw [show s.own.cycle = some p from hp] at hn
    cases hn

/-- A station with no record, and a chuck that rests without a cycle pitch, meets the laws. -/
theorem Cycle.of_nil (h : s.track = []) (hn : s.head.cyclePitch = none) (hc : s.head.chuck.resting) :
    s.own.Cycle P := by
  have hmarks : s.own.marks = [] := by simp [State.own, h]
  refine ⟨?_, ?_, ?_, fun p hp => ?_, fun _ => hc⟩
  · simp [OwnView.Distinct, hmarks]
  · intro x hx
    simp [hmarks] at hx
  · intro x hx
    simp [hmarks] at hx
  · rw [show s.own.cycle = none from hn] at hp
    cases hp

end OwnView

/-! ### Every move -/

open OwnView in
/-- Every move keeps the laws of spacing and chuck over the view. -/
theorem Move.cycle {c : Instr} {s t : State} (h : Move c s t) (hc : s.ConfigLaw) (ht : s.TrackLaw)
    (hs : s.own.Cycle s.own.settled) : t.own.Cycle t.own.settled := by
  have hready : Chuck.ready.resting := by simp [Chuck.resting]
  have hstart (p : Pins) (cap : Bool) :
      ({ s with pins := p }.start cap).own.Cycle ({ s with pins := p }.start cap).own.settled
        ∧ ({ s with pins := p }.start cap).own.cycle = none := by
    rw [State.start_frame]
    have hhead : (headAtStart s.ctl.image cap).cyclePitch = none
        ∧ (headAtStart s.ctl.image cap).chuck.resting := by
      unfold headAtStart
      dsimp only
      split
      · exact ⟨rfl, hready⟩
      · exact ⟨rfl, by simp [Chuck.resting]⟩
    exact ⟨.of_nil rfl hhead.1 hhead.2, hhead.1⟩
  cases h with
  | power straps pair hp => exact .of_nil rfl rfl hready
  | desk hd =>
    by_cases hr : s.inRun = true
    · have hctl := (hd.run hr).1
      have hown : t.own = s.own := by rw [hd.rest]; simp only [State.own, State.cfg, hctl]
      rwa [hown]
    · have hn : s.own.cycle = none := by
        cases hp : s.own.cycle with
        | none => rfl
        | some p => exact absurd (s.inRun_of_run (hs.place p hp).2.2) hr
      have hown : t.own = { s.own with mode := t.ctl.mode } := by
        rw [hd.rest]
        simp only [State.own, State.cfg, hd.taken]
      rw [hown]
      exact ⟨hs.distinct, hs.spaced, hs.chucked, fun p hp => absurd (hn.symm.trans hp) (by simp), hs.rest⟩
  | line l k hl hk => exact hs
  | clock x hn ha =>
    have hown : State.own { s with clk := x } = s.own := by simp only [State.own, hn, State.cfg]
    rwa [hown]
  | strobe x pins hr hn ha =>
    have hown : State.own { s with clk := x } = s.own := by simp only [State.own, hn, State.cfg]
    have hf := hc.fit hr
    refine Cycle.strobe (s := { s with clk := x }) (by rwa [hown]) hf ?_ (ht.of_pitches rfl hn rfl) pins
    have hplan := hf.plan
    rwa [← (hc hr).2] at hplan
  | work hr h => exact hs.work h
  | stop x p cause hr => rw [State.runStop_frame]; exact .of_nil rfl rfl hready
  | fault l p cause hm => rw [State.enterFault_frame]; exact .of_nil rfl rfl hready
  | start p cap hm hchk => exact (hstart p cap).1
  | startJam p cap hm hchk hj => exact (hstart p cap).1.withdraw (hstart p cap).2 _
  | giveUp p why hm =>
    obtain ⟨hup, hn⟩ := Cycle.giveUpCycle (s := { s with pins := p })
      (Q := ({ s with pins := p }.giveUpCycle).own.settled) hs
    exact hup.withdraw hn _

/-- The laws of the cycle together, from the view back to the station. -/
theorem Move.cycleLaw {c : Instr} {s t : State} (h : Move c s t) (hs : s.CycleLaw) : t.CycleLaw := by
  obtain ⟨hc, ht, hcl, hsp, hck⟩ := hs
  have ht' := h.trackLaw hc ht
  have hcycle := h.cycle hc ht ((State.cycle_iff ht.distinct).mp ⟨hsp, hck⟩)
  obtain ⟨hsp', hck'⟩ := (State.cycle_iff ht'.distinct).mpr hcycle
  exact ⟨h.configLaw hc, ht', h.claimLaw hc ht hcl, hsp', hck'⟩

end Sys2Proof.Machine

namespace Sys2Proof.Proofs
open Sys2Proof.Machine

/-- Settles O58: the engaged jar's place is read off the stage of the chuck, and a claim can come to E only when
the jar before it has left the chuck. -/
theorem cycleLawKept : Obligations.CycleLawKept := by
  intro s t hs hstep
  rcases step_cases hstep with rfl | ⟨c, rest, -, hmove⟩
  · exact hs
  · exact hmove.cycleLaw hs

end Sys2Proof.Proofs
end


section
/-! PROOF. The service port (O39 to O48): the port's answer to a byte written and to a read, said once, and the
rows of the items. -/

namespace Sys2Proof.Machine

variable (s : State)

/-! ### A byte written -/

/-- The station with a write transaction of `item` open, its item number acknowledged (R175). -/
def State.opened (item : Byte) (s : State) : State :=
  { s with port := { s.port with pointer := item, writing := true, acked := true } }

variable {s} {target : BitVec 7} {item value : Byte} {t : State}

theorem State.writeItem_addressed (h : s.addressed target) :
    s.writeItem target item value = (s.opened item).dataByte value := by
  have ha := (s.answers_iff target).mpr h
  simp only [State.writeItem, State.beginWrite, ha, if_true, State.opened]

theorem State.dataByte_accepted (h : s.acceptData? s.port.pointer value = some t) :
    s.dataByte value = { t with
      port := { t.port with accessRefused := false, acked := true, pointer := nextItem s.port.pointer } } := by
  simp only [State.dataByte, h]

theorem State.dataByte_refused (h : s.acceptData? s.port.pointer value = none) :
    s.dataByte value = { s with port := { s.port with accessRefused := true, acked := false } } := by
  simp only [State.dataByte, h]

/-- A whole write of an item that takes the byte. -/
theorem State.writeItem_accepted (h : s.addressed target) (ht : (s.opened item).acceptData? item value = some t) :
    s.writeItem target item value = { t with
      port := { t.port with accessRefused := false, acked := true, pointer := nextItem item } } := by
  rw [State.writeItem_addressed h]
  exact State.dataByte_accepted ht

/-- A whole write of an item that refuses the byte changes the port alone. -/
theorem State.writeItem_refused (h : s.addressed target) (ht : (s.opened item).acceptData? item value = none) :
    s.writeItem target item value = { s with port := s.port.refused item } := by
  rw [State.writeItem_addressed h, State.dataByte_refused ht]
  rfl

/-! ### What each item does with a byte -/

/-- In FAULT the port takes no byte (R178, R179). -/
theorem State.acceptData_fault (h : s.ctl.mode = .fault) : s.acceptData? item value = none := by
  simp only [State.acceptData?, h, if_true]

theorem State.acceptData_torquePointer (h : s.ctl.mode = .standby) :
    s.acceptData? 0x38 value = some { s with verdicts := s.verdicts.writePointer value } := by
  simp only [State.acceptData?, h, reduceCtorEq, if_false]
  rfl

theorem State.acceptData_torqueData (h : s.ctl.mode = .standby) :
    s.acceptData? 0x39 value = some { s with verdicts := s.verdicts.writeData value } := by
  simp only [State.acceptData?, h, reduceCtorEq, if_false]
  rfl

/-- The torque table is written in STANDBY alone (R178). -/
theorem State.acceptData_torque_refused (h : s.ctl.mode ≠ .standby) (hi : item = 0x38 ∨ item = 0x39) :
    s.acceptData? item value = none := by
  rcases hi with rfl | rfl <;> simp [State.acceptData?, h]

theorem State.acceptData_clear (h : s.ctl.mode ≠ .fault) : s.acceptData? 0x40 1 = some s.clearCounters := by
  simp [State.acceptData?, h]

theorem State.acceptData_reload (h : s.ctl.mode = .standby) : s.acceptData? 0x40 2 = some s.reload := by
  simp [State.acceptData?, h]

theorem State.acceptData_reload_refused (h : s.ctl.mode ≠ .standby) : s.acceptData? 0x40 2 = none := by
  simp [State.acceptData?, h]

theorem State.acceptData_peerView {k : Station} (h : s.ctl.mode ≠ .fault) (hk : value.toNat = stationNum k) :
    s.acceptData? 0xC0 value = some { s with port := { s.port with peerView := s.takePeerView k } } := by
  simp [State.acceptData?, h, hk, stationOf_stationNum]

theorem State.acceptData_peerView_refused (hv : value.toNat = 0 ∨ 9 ≤ value.toNat) :
    s.acceptData? 0xC0 value = none := by
  simp [State.acceptData?, stationOf_none hv]

theorem State.acceptData_trackView (h : s.ctl.mode ≠ .fault) :
    s.acceptData? 0xC4 value = some { s with port := { s.port with trackView := s.takeSnapshot } } := by
  simp [State.acceptData?, h]

theorem State.acceptData_gateView (h : s.ctl.mode ≠ .fault) :
    s.acceptData? 0xC6 value = some { s with port := { s.port with gateView := s.takeGateView } } := by
  simp [State.acceptData?, h]

theorem State.acceptData_image (h : s.ctl.mode = .standby) (i : Fin 33) (hi : item.toNat = 0x10 + i.val) :
    s.acceptData? item value
      = some { s with ctl := { s.ctl with image := s.ctl.image.set i.val value i.isLt } } := by
  have hlt := i.isLt
  have hrange : 0x10 ≤ item.toNat ∧ item.toNat ≤ 0x30 := by omega
  have hat : item.toNat - 0x10 = i.val := by omega
  unfold State.acceptData?
  rw [if_neg (by rw [h]; decide)]
  split
  case h_7 => simp only [hrange, h, hat, if_true, dif_pos, and_self]
  all_goals omega

theorem State.acceptData_image_refused (h : s.ctl.mode ≠ .standby) (i : Fin 33)
    (hi : item.toNat = 0x10 + i.val) : s.acceptData? item value = none := by
  have hlt := i.isLt
  unfold State.acceptData?
  split
  · rfl
  · split
    case h_7 => simp
    all_goals omega

/-- Items that are read only, or have no number, take no byte (R175). -/
theorem State.acceptData_unnumbered
    (hi : item.toNat < 0x10 ∨ (0x31 ≤ item.toNat ∧ item.toNat ≤ 0x37)
      ∨ (0x3A ≤ item.toNat ∧ item.toNat ≤ 0x3F) ∨ (0x41 ≤ item.toNat ∧ item.toNat ≤ 0xBF)
      ∨ item ∈ [0xC1#8, 0xC2, 0xC3, 0xC5] ∨ 0xC7 ≤ item.toNat
      ∨ (item = 0x40 ∧ value ≠ 1 ∧ value ≠ 2)) : s.acceptData? item value = none := by
  by_cases hcmd : item = 0x40 ∧ value ≠ 1 ∧ value ≠ 2
  · obtain ⟨rfl, h1, h2⟩ := hcmd
    have h1 : ¬ value = 1#8 := h1
    have h2 : ¬ value = 2#8 := h2
    simp [State.acceptData?, h1, h2]
  · have hnat : item.toNat < 0x10 ∨ (0x31 ≤ item.toNat ∧ item.toNat ≤ 0x37)
        ∨ (0x3A ≤ item.toNat ∧ item.toNat ≤ 0x3F) ∨ (0x41 ≤ item.toNat ∧ item.toNat ≤ 0xBF)
        ∨ item.toNat = 0xC1 ∨ item.toNat = 0xC2 ∨ item.toNat = 0xC3 ∨ item.toNat = 0xC5
        ∨ 0xC7 ≤ item.toNat := by
      simp only [List.mem_cons, List.not_mem_nil, or_false] at hi
      rcases hi with hi | hi | hi | hi | (rfl | rfl | rfl | rfl) | hi | hi
      case inr.inr.inr.inr.inr.inr => exact absurd hi hcmd
      all_goals simp_all
    unfold State.acceptData?
    split
    · rfl
    · split
      case h_7 => rw [dif_neg (by omega)]
      all_goals omega

/-! ### A read -/

theorem State.readNext_addressed (h : s.addressed target) :
    s.readNext target = { s with port := { s.port with writing := false, acked := true } }.readAtPointer := by
  have ha := (s.answers_iff target).mpr h
  simp only [State.readNext, ha, if_true]

/-- A whole read of an item is a read with the pointer on it. -/
theorem State.readItem_addressed (h : s.addressed target) :
    s.readItem target item
      = { s with port := { s.port with pointer := item, writing := false, acked := true } }.readAtPointer := by
  have ha := (s.answers_iff target).mpr h
  have hopen : (s.opened item).addressed target := h
  rw [State.readItem, if_pos ha, State.beginWrite, if_pos ha]
  exact State.readNext_addressed hopen

/-- Only the torque data and the views have an effect beside the pointer. -/
theorem State.readEffect_none (h : streaming item = false) : s.readEffect item = s := by
  unfold State.readEffect
  have hne (x : Byte) (hx : streaming x = true) : item ≠ x := fun he => by
    rw [he, hx] at h
    cases h
  split
  · rename_i hi
    exact absurd (BitVec.eq_of_toNat_eq (y := 0x39#8) hi) (hne _ rfl)
  · rename_i hi
    exact absurd (BitVec.eq_of_toNat_eq (y := 0xC1#8) hi) (hne _ rfl)
  · rename_i hi
    exact absurd (BitVec.eq_of_toNat_eq (y := 0xC5#8) hi) (hne _ rfl)
  · rename_i hi
    exact absurd (BitVec.eq_of_toNat_eq (y := 0xC7#8) hi) (hne _ rfl)
  · rfl

/-- A read of an item that is no stream: the port alone changes, and the pointer moves on (R175, R176). -/
theorem State.exec_highByteRead (h : s.addressed target) (hs : streaming s.port.pointer = false) :
    exec (.highByteRead target) s = .next { s with port :=
      { s.port with
        pointer := s.port.pointer + 1, writing := false, acked := true
        dataOut := s.itemByte s.port.pointer, latch := s.latchAfter s.port.pointer } } := by
  have hmove : nextItem s.port.pointer = s.port.pointer + 1 := by simp [nextItem, hs]
  simp only [exec, execHighByteRead]
  rw [State.readNext_addressed h, State.readAtPointer]
  simp only [State.readEffect_none hs, hmove]
  rfl

/-- Items outside N and the counters have no latch (R176). -/
theorem State.highItem_none (h : item.toNat ≠ 4) (hr : item.toNat < 0x80 ∨ 0xBB < item.toNat) :
    s.highItem? item = none := by
  unfold State.highItem?
  rw [if_neg (fun he => h (by rw [he]; rfl)), dif_neg (by omega)]

theorem State.lowItem_none (h : item.toNat ≠ 5) (hr : item.toNat < 0x80 ∨ 0xBB < item.toNat) :
    s.lowItem? item = none := by
  unfold State.lowItem?
  rw [if_neg (fun he => h (by rw [he]; rfl)), dif_neg (by omega)]

/-- The byte of an item that holds no part of a two-byte value (R175). -/
theorem State.itemByte_single (h4 : item.toNat ≠ 4) (h5 : item.toNat ≠ 5)
    (hr : item.toNat < 0x80 ∨ 0xBB < item.toNat) : s.itemByte item =
      match item.toNat with
      | 0x00 => s.statusState
      | 0x01 => s.statusRefused
      | 0x02 => s.statusFlags
      | 0x03 => s.statusFault
      | 0x38 => s.verdicts.pointerByte
      | 0x39 => s.verdicts.dataAt
      | 0xC1 => s.port.peerView.current
      | 0xC5 => s.port.trackView.current
      | 0xC7 => s.port.gateView.current
      | n => if h : 0x10 ≤ n ∧ n ≤ 0x30 then s.ctl.image[n - 0x10]'(by omega) else s.head.plan.itemByte n := by
  unfold State.itemByte
  rw [State.highItem_none h4 hr, State.lowItem_none h5 hr] <;> rfl

end Sys2Proof.Machine
end


section
/-! PROOF. The rows of the service port (O40 to O48), each read off the answers of `Service`. -/

namespace Sys2Proof.Machine

variable {s : State} {target : BitVec 7} {item value : Byte}

/-! ### Bytes of the status and of the views -/

theorem hiByte_eq (w : Word) : hiByte w = BitVec.ofNat 8 (w.toNat / 256) := by
  unfold hiByte
  apply BitVec.eq_of_toNat_eq
  simp [Nat.shiftRight_eq_div_pow]

theorem loByte_eq (w : Word) : loByte w = BitVec.ofNat 8 w.toNat := by
  unfold loByte
  apply BitVec.eq_of_toNat_eq
  simp

theorem wordBytes_eq (w : Word) : wordBytes w = twoBytes w.toNat := by
  rw [wordBytes, twoBytes, hiByte_eq, loByte_eq]

/-- A probe field of a view, from its 12 bits (R177). -/
theorem micronBytes_some (v : Micron) : micronBytes (some v) = twoBytes v.toNat := by
  have hlt := v.isLt
  simp only [micronBytes]
  rw [wordBytes_eq, BitVec.toNat_setWidth, Nat.mod_eq_of_lt (by omega)]

theorem helloBytes_gate (x : BitVec 4) (g : Bool) :
    byteOf x.toNat ||| flagBit 7 g = BitVec.ofNat 8 (x.toNat + 128 * g.toNat) := by
  revert x g
  decide

/-- The flags byte of a record in the snapshot, as one sum (R177). -/
theorem flagsByte_eq (a b c d m : Bool) (f : FlushKind) :
    flagBit 0 a ||| flagBit 1 b ||| flagBit 2 c ||| flagBit 3 d ||| byteOf (16 * f.code) ||| flagBit 6 m
      = BitVec.ofNat 8 (a.toNat + 2 * b.toNat + 4 * c.toNat + 8 * d.toNat + 16 * f.code + 64 * m.toNat) := by
  cases f <;> revert a b c d m <;> decide

/-- The facts of a HELLO in the peer view, by the table of R177. -/
theorem factBytes_eq (facts : Option HelloFacts) :
    [flagBit 0 facts.isSome, (facts.map HelloFacts.entry).getD 0, (facts.map HelloFacts.exit).getD 0,
      (facts.map (fun f => byteOf (f.pitchBit.toNat + 16 * f.edge.toNat))).getD 0,
      (facts.map (fun f => byteOf f.steam.toNat ||| flagBit 7 f.gate)).getD 0]
      = (match facts with
        | some f =>
          [1, f.entry, f.exit, BitVec.ofNat 8 (f.pitchBit.toNat + 16 * f.edge.toNat),
            BitVec.ofNat 8 (f.steam.toNat + 128 * f.gate.toNat)]
        | none => [0, 0, 0, 0, 0]) := by
  cases facts with
  | none => rfl
  | some f =>
    simp only [Option.isSome_some, Option.map_some, Option.getD_some, helloBytes_gate]
    rfl

/-- The last-heard pitch in the peer view. -/
theorem heardBytes_eq (heard : Option Word) :
    [flagBit 0 heard.isSome, hiByte (heard.getD 0), loByte (heard.getD 0)]
      = (match heard with
        | some n => 1 :: twoBytes n.toNat
        | none => [0, 0, 0]) := by
  cases heard with
  | none => rfl
  | some n =>
    simp only [Option.isSome_some, Option.getD_some, hiByte_eq, loByte_eq]
    rfl

theorem peerBytes_eq (own : Bool) (p : Peer) : peerBytes own p = peerRow own p := by
  have hstate (n : Nat) (hn : n ≤ 4) : byteOf n ||| flagBit 7 own = BitVec.ofNat 8 (n + 128 * own.toNat) := by
    interval_cases n <;> cases own <;> rfl
  have hcode : p.st.code ≤ 4 := by cases p.st <;> simp [PeerState.code]
  have hrow : peerBytes own p
      = [byteOf p.st.code ||| flagBit 7 own,
          (match p.st with
            | .mismatched why => byteOf why.code
            | _ => 0)]
        ++ [flagBit 0 p.facts.isSome, (p.facts.map HelloFacts.entry).getD 0,
          (p.facts.map HelloFacts.exit).getD 0,
          (p.facts.map (fun f => byteOf (f.pitchBit.toNat + 16 * f.edge.toNat))).getD 0,
          (p.facts.map (fun f => byteOf f.steam.toNat ||| flagBit 7 f.gate)).getD 0]
        ++ [byteOf p.lapses, byteOf p.skew]
        ++ [flagBit 0 p.lastHeard.isSome, hiByte (p.lastHeard.getD 0), loByte (p.lastHeard.getD 0)]
        ++ [(match p.st with
          | .parked r => r
          | _ => 0)] := rfl
  rw [hrow, hstate _ hcode, factBytes_eq, heardBytes_eq]
  unfold peerRow
  cases p.st with
  | mismatched why => cases why <;> rfl
  | _ => rfl

/-- The measurements' six probe bytes in the snapshot. -/
theorem probeBytes_eq (m : Option Measurements) :
    micronBytes ((m.bind Measurements.probe).map ProbeReading.rim)
        ++ micronBytes ((m.bind Measurements.probe).map ProbeReading.panel)
        ++ micronBytes ((m.bind Measurements.probe).bind ProbeReading.deflection)
      = (match m with
        | some ⟨_, _, some ⟨r, q, some d⟩⟩ => twoBytes r.toNat ++ twoBytes q.toNat ++ twoBytes d.toNat
        | some ⟨_, _, some ⟨r, q, none⟩⟩ => twoBytes r.toNat ++ twoBytes q.toNat ++ [0xFF, 0xFF]
        | some ⟨_, _, none⟩ => [0xFF, 0xFF, 0xFF, 0xFF, 0xFF, 0xFF]
        | none => [0xFF, 0xFF, 0xFF, 0xFF, 0xFF, 0xFF]) := by
  rcases m with _ | ⟨p, t, _ | ⟨r, q, _ | d⟩⟩
  · rfl
  · rfl
  · simp only [Option.bind_some, Option.map_some, micronBytes_some]
    rfl
  · simp only [Option.bind_some, Option.map_some, micronBytes_some]

/-- A record's bytes in the snapshot, by the table of R177. -/
theorem jarBytes_eq (i : Image) (n : Word) (j : Jar) : jarBytes i n j = trackRow i.number n j := by
  have hclaimant : claimantBytes i j.st = (match j.st with
      | .heldPeer k promise _ => BitVec.ofNat 8 (stationNum k) :: twoBytes promise.toNat
      | .claimed => [BitVec.ofNat 8 i.number, 0xFF, 0xFF]
      | .openJar => [0, 0xFF, 0xFF]
      | .inChuck _ => [0, 0xFF, 0xFF]
      | .probeWait _ => [0, 0xFF, 0xFF]
      | .done _ _ _ _ => [0, 0xFF, 0xFF]) := by
    cases j.st with
    | heldPeer k promise a => simp only [claimantBytes, wordBytes_eq]; rfl
    | _ => rfl
  have hband : (j.band.map (fun b => byteOf b.val)).getD 0xFF
      = (match j.band with | some b => BitVec.ofNat 8 b.val | none => 0xFF) := by
    cases j.band <;> rfl
  unfold jarBytes
  dsimp only
  rw [wordBytes_eq, hclaimant, hband, flagsByte_eq]
  simp only [List.append_assoc]
  rw [← List.append_assoc (micronBytes _) (micronBytes _), ← List.append_assoc (micronBytes _ ++ micronBytes _),
    probeBytes_eq]
  unfold trackRow
  cases j.flush with
  | noFlush | full | short =>
    cases j.st with
    | done v src disp m => cases m <;> cases src <;> cases disp <;> rfl
    | _ => rfl

end Sys2Proof.Machine
end


section
/-! PROOF. The obligations of the service port (O40 to O48). -/

namespace Sys2Proof.Machine

variable {s t : State} {target : BitVec 7} {item value : Byte}

/-- A data byte of an open transaction reads nothing of the last acknowledgement: opening the item at the
pointer again changes nothing. -/
theorem State.acceptData_acked (b : Bool) :
    State.acceptData? item value { s with port := { s.port with acked := b } }
      = (s.acceptData? item value).map (fun t => { t with port := { t.port with acked := b } }) := by
  unfold State.acceptData?
  dsimp only
  split
  · rfl
  · split
    · split <;> rfl
    · split <;> rfl
    · split
      · rfl
      · split <;> rfl
    · split <;> rfl
    · rfl
    · rfl
    · split
      · split <;> rfl
      · rfl

/-- In an open transaction a data byte is a whole write of the item at the pointer. -/
theorem State.dataByte_eq_writeItem (h : s.addressed target) (hw : s.port.writing = true)
    (hp : s.port.pointer = item) : s.dataByte value = s.writeItem target item value := by
  have hopen : s.opened item = { s with port := { s.port with acked := true } } := by
    rw [State.opened, ← hp, ← hw]
  have hsame := State.acceptData_acked (s := s) (item := s.port.pointer) (value := value) true
  rw [State.writeItem_addressed h, hopen]
  cases ht : s.acceptData? s.port.pointer value with
  | none =>
    rw [ht, Option.map_none] at hsame
    rw [State.dataByte_refused ht, State.dataByte_refused hsame]
  | some t =>
    rw [ht, Option.map_some] at hsame
    rw [State.dataByte_accepted ht, State.dataByte_accepted hsame]

/-- The latch that a high-byte read leaves, and the item that takes it (R176). -/
theorem State.highItem_counter (i : Fin 30) (h : item.toNat = 0x80 + 2 * i.val) :
    s.highItem? item = some (s.counters.get i) := by
  have hi := i.isLt
  unfold State.highItem?
  rw [if_neg (fun he => by rw [he] at h; simp at h; omega), dif_pos (by omega)]
  congr 2
  exact Fin.ext (by simp only; omega)

theorem State.lowItem_counter (i : Fin 30) (h : item.toNat = 0x80 + 2 * i.val + 1) :
    s.lowItem? item = some (s.counters.get i) := by
  have hi := i.isLt
  unfold State.lowItem?
  rw [if_neg (fun he => by rw [he] at h; simp at h; omega), dif_pos (by omega)]
  congr 2
  exact Fin.ext (by simp only; omega)

theorem item_succ_toNat (h : item.toNat < 255) : (item + 1).toNat = item.toNat + 1 := by
  rw [BitVec.toNat_add, Nat.mod_eq_of_lt]
  · rfl
  · change item.toNat + 1 < 256
    omega

theorem streaming_false (h : item.toNat ≠ 0x39) (h1 : item.toNat ≠ 0xC1) (h5 : item.toNat ≠ 0xC5)
    (h7 : item.toNat ≠ 0xC7) : streaming item = false := by
  have hne (x : Byte) (hx : item.toNat ≠ x.toNat) : (item == x) = false := by
    simpa using fun he : item = x => hx (congrArg BitVec.toNat he)
  simp only [streaming, hne 0x39 h, hne 0xC1 h1, hne 0xC5 h5, hne 0xC7 h7, Bool.or_self]

/-- The two-byte value that an item and the next one hold (R175). -/
def State.twoByteAt (s : State) (item : Byte) (w : Word) : Prop :=
  (item = 4 ∧ w = s.clk.n) ∨ ∃ i : Fin 30, item.toNat = 0x80 + 2 * i.val ∧ w = s.counters.get i

theorem State.twoByteAt.plain {w : Word} (h : s.twoByteAt item w) :
    streaming item = false ∧ streaming (item + 1) = false := by
  rcases h with ⟨rfl, -⟩ | ⟨i, hi, -⟩
  · exact ⟨rfl, rfl⟩
  · have hlt := i.isLt
    have hnext : (item + 1).toNat = item.toNat + 1 := item_succ_toNat (by omega)
    exact ⟨streaming_false (by omega) (by omega) (by omega) (by omega),
      streaming_false (by omega) (by omega) (by omega) (by omega)⟩

theorem State.twoByteAt.high {w : Word} (h : s.twoByteAt item w) :
    s.highItem? item = some w ∧ s.highItem? (item + 1) = none ∧ s.lowItem? (item + 1) = some w := by
  rcases h with ⟨rfl, rfl⟩ | ⟨i, hi, rfl⟩
  · exact ⟨rfl, rfl, rfl⟩
  · have hlt := i.isLt
    have hnext : (item + 1).toNat = item.toNat + 1 := item_succ_toNat (by omega)
    refine ⟨State.highItem_counter i hi, ?_, State.lowItem_counter i (by omega)⟩
    unfold State.highItem?
    rw [if_neg (fun he => by rw [he] at hnext; simp at hnext; omega), dif_neg (by omega)]

/-- The high byte's read latches the low byte for the next item; that item's read returns the latched byte, or
without a latch the current one (R176). -/
theorem State.read_high {w : Word} (h : s.addressed target) (hw : s.twoByteAt s.port.pointer w) :
    exec (.highByteRead target) s = .next { s with port :=
      { s.port with
        pointer := s.port.pointer + 1, writing := false, acked := true
        dataOut := hiByte w, latch := some (s.port.pointer + 1, loByte w) } } := by
  rw [State.exec_highByteRead h hw.plain.1]
  simp only [State.itemByte, State.latchAfter, hw.high.1, Option.map_some]

theorem State.read_low {w : Word} (h : s.addressed target) (hw : s.twoByteAt item w)
    (hp : s.port.pointer = item + 1) :
    exec (.highByteRead target) s = .next { s with port :=
      { s.port with
        pointer := s.port.pointer + 1, writing := false, acked := true
        dataOut := s.lowByteRead (item + 1) w, latch := none } } := by
  have hplain := hw.plain.2
  rw [← hp] at hplain
  rw [State.exec_highByteRead h hplain]
  simp only [State.itemByte, State.latchAfter, hp, hw.high.2.1, hw.high.2.2, Option.map_none]

/-- The flags byte as its bits (R175). -/
theorem statusFlags_bits (a b c d e : Bool) (w : Option FaultInput) :
    let x := flagBit 0 a ||| flagBit 1 b ||| flagBit 2 c ||| flagBit 3 d ||| flagBit 4 e
      ||| byteOf (32 * ((w.map withdrawCode).getD 0))
    x.getLsbD 0 = a ∧ x.getLsbD 1 = b ∧ x.getLsbD 2 = c ∧ x.getLsbD 3 = d ∧ x.getLsbD 4 = e
      ∧ x.getLsbD 5 = decide (w = some .headFault) ∧ x.getLsbD 6 = decide (w = some .jam)
      ∧ x.getLsbD 7 = false := by
  rcases w with _ | w
  · revert a b c d e
    decide
  · cases w <;> revert a b c d e <;> decide

/-- A read of a single item that is no stream. -/
theorem State.read_single (h : s.addressed target) (hs : streaming s.port.pointer = false)
    (h4 : s.port.pointer.toNat ≠ 4) (hr : s.port.pointer.toNat < 0x80 ∨ 0xBB < s.port.pointer.toNat) :
    exec (.highByteRead target) s = .next { s with port :=
      { s.port with
        pointer := s.port.pointer + 1, writing := false, acked := true
        dataOut := s.itemByte s.port.pointer, latch := none } } := by
  rw [State.exec_highByteRead h hs]
  simp only [State.latchAfter, State.highItem_none h4 hr, Option.map_none]

/-- An image item, a plan item, or an item that returns 0. -/
theorem State.itemByte_plain (h : 6 ≤ item.toNat) (h8 : item.toNat ≠ 0x38 ∧ item.toNat ≠ 0x39)
    (hr : item.toNat < 0x80 ∨ (0xBB < item.toNat ∧ item.toNat ≠ 0xC1 ∧ item.toNat ≠ 0xC5 ∧ item.toNat ≠ 0xC7)) :
    s.itemByte item = if h : 0x10 ≤ item.toNat ∧ item.toNat ≤ 0x30 then s.ctl.image[item.toNat - 0x10]'(by omega)
      else s.head.plan.itemByte item.toNat := by
  rw [State.itemByte_single (by omega) (by omega) (by omega)]
  split
  case h_10 => rfl
  all_goals omega

end Sys2Proof.Machine

namespace Sys2Proof.Proofs
open Sys2Proof.Machine

/-- Settles O40: an address that the port does not answer closes its transaction, whatever the row. -/
theorem serviceUnaddressed : Obligations.ServiceUnaddressed := by
  intro s target item value view hno i hi
  have ha : ¬ s.answers target = true := fun h => hno ((s.answers_iff target).mp h)
  have hwrite (x v : Byte) : s.writeItem target x v = s.notAddressed := by rw [State.writeItem, if_neg ha]
  have hread (x : Byte) : s.readItem target x = s.notAddressed := by rw [State.readItem, if_neg ha]
  have hnext : s.readNext target = s.notAddressed := by rw [State.readNext, if_neg ha]
  have hbegin : s.beginWrite target item = s.notAddressed := by rw [State.beginWrite, if_neg ha]
  have hrow : exec i s = .next s.notAddressed := by
    simp only [List.mem_cons, List.not_mem_nil, or_false] at hi
    rcases hi with rfl | rfl | rfl | rfl | rfl | rfl | rfl | rfl | rfl | rfl | rfl
    · exact congrArg Host.Outcome.next hbegin
    · exact congrArg Host.Outcome.next (hwrite _ _)
    · exact congrArg Host.Outcome.next (hwrite _ _)
    · exact congrArg Host.Outcome.next (hread _)
    · exact congrArg Host.Outcome.next hnext
    · exact congrArg Host.Outcome.next (hwrite _ _)
    · exact congrArg Host.Outcome.next (hwrite _ _)
    · exact congrArg Host.Outcome.next (hwrite _ _)
    · exact congrArg Host.Outcome.next (hwrite _ _)
    · exact congrArg Host.Outcome.next (hwrite _ _)
    · exact congrArg Host.Outcome.next (hread _)
  exact hrow

/-- Settles O41: the item at the pointer takes the byte or refuses it, as a whole write of that item does. -/
theorem itemWrites : Obligations.ItemWrites := by
  intro s target item value
  refine ⟨fun h => ?_, fun hw => ?_, fun hw => ?_⟩
  · have ha := (s.answers_iff target).mpr h
    simp only [exec, execItemNumberWrite, State.beginWrite, ha, if_true]
  · simp only [exec, execServiceWrite, hw]
    rfl
  · have hexec : exec (.serviceWrite value) s = .next (s.dataByte value) := by
      simp only [exec, execServiceWrite, hw, if_true]
    rw [hexec]
    refine ⟨fun i hi => ⟨fun hm => ?_, fun hm => ?_⟩, fun hi => ?_, fun h => ?_⟩
    · have hlt := i.isLt
      have hmove : nextItem s.port.pointer = s.port.pointer + 1 := by
        simp only [nextItem, streaming_false (item := s.port.pointer) (by omega) (by omega) (by omega) (by omega)]
        rfl
      rw [State.dataByte_accepted (State.acceptData_image hm i hi), hmove]
    · rw [State.dataByte_refused (State.acceptData_image_refused hm i hi)]
    · rw [State.dataByte_refused (State.acceptData_unnumbered hi)]
    · have hrow (x : Byte) (hp : s.port.pointer = x) := State.dataByte_eq_writeItem (value := value) h hw hp
      exact ⟨fun hp => congrArg Host.Outcome.next (hrow _ hp), fun hp => congrArg Host.Outcome.next (hrow _ hp),
        fun hp hv => hv ▸ congrArg Host.Outcome.next (hv ▸ hrow _ hp),
        fun hp hv => hv ▸ congrArg Host.Outcome.next (hv ▸ hrow _ hp),
        fun hp => congrArg Host.Outcome.next (hrow _ hp), fun hp => congrArg Host.Outcome.next (hrow _ hp),
        fun hp => congrArg Host.Outcome.next (hrow _ hp)⟩

/-- Settles O42, by the part at the torque pointer. -/
theorem torqueTableWrites : Obligations.TorqueTableWrites := by
  intro s target v h u old amin
  refine ⟨fun hm => ⟨?_, fun hp => ?_, fun hp => ?_, fun hp => ?_⟩, fun hm => ⟨?_, ?_⟩⟩
  · refine ⟨Fin.ofNat 16 (v.extractLsb' 0 4).toNat,
      if (v.extractLsb' 4 2).toNat ≤ 2 then Fin.ofNat 3 (v.extractLsb' 4 2).toNat else 0, ?_, ?_, ?_⟩
    · have hw := State.writeItem_accepted h (State.acceptData_torquePointer (s := s.opened 0x38) (value := v) hm)
      exact congrArg Host.Outcome.next hw
    · simp
    · have hpart : (v.extractLsb' 4 2).toNat = v.toNat / 16 % 4 := by
        simp [Nat.shiftRight_eq_div_pow]
      rw [hpart]
      split
      · simp; omega
      · rfl
  · have hw := State.writeItem_accepted h (State.acceptData_torqueData (s := s.opened 0x39) (value := v) hm)
    have hdata : u.writeData v = { u with stagedTarget := some v, part := 1 } := by
      simp only [VerdictUnit.writeData, hp, Fin.val_zero]
    refine congrArg Host.Outcome.next (hw.trans ?_)
    rw [← hdata]
    rfl
  · have hw := State.writeItem_accepted h (State.acceptData_torqueData (s := s.opened 0x39) (value := v) hm)
    have hdata : u.writeData v = { u with stagedAmin := some v, part := 2 } := by
      simp only [VerdictUnit.writeData, hp, Fin.val_one]
    refine congrArg Host.Outcome.next (hw.trans ?_)
    rw [← hdata]
    rfl
  · have hw := State.writeItem_accepted h (State.acceptData_torqueData (s := s.opened 0x39) (value := v) hm)
    refine congrArg Host.Outcome.next (hw.trans ?_)
    have hdata : u.writeData v =
        { profile := u.profile.set u.band.val (u.committed v) u.band.isLt
          band := u.band + 1, part := 0, stagedTarget := none, stagedAmin := none } := by
      simp only [VerdictUnit.writeData, hp, Fin.val_two]
    change _ = ({ s with verdicts := _, port := _ } : State)
    rw [show (s.opened 0x39).verdicts = u from rfl, hdata]
    rfl
  · exact congrArg Host.Outcome.next
      (State.writeItem_refused h (State.acceptData_torque_refused hm (.inl rfl)))
  · exact congrArg Host.Outcome.next
      (State.writeItem_refused h (State.acceptData_torque_refused hm (.inr rfl)))

/-- Settles O43, by the part at the torque pointer. -/
theorem torqueTableRead : Obligations.TorqueTableRead := by
  intro s target h u e port moved
  have hread (out : Byte) (w : VerdictUnit) (hout : u.dataAt = out) (hw : u.afterRead = w) :
      exec (.torqueDataRead target) s = .next { s with verdicts := w, port := port out } := by
    subst hout hw
    exact congrArg Host.Outcome.next (State.readItem_addressed h)
  refine ⟨fun hp => hread _ _ ?_ ?_, fun hp => hread _ _ ?_ ?_, fun hp => hread _ _ ?_ ?_⟩
  · simp only [VerdictUnit.dataAt, hp, Fin.val_zero]; rfl
  · simp only [VerdictUnit.afterRead, hp]; rfl
  · simp only [VerdictUnit.dataAt, hp, Fin.val_one]; rfl
  · simp only [VerdictUnit.afterRead, hp]; rfl
  · simp only [VerdictUnit.dataAt, hp, Fin.val_two]; rfl
  · simp only [VerdictUnit.afterRead, hp]; rfl

/-- Settles O44: the latch stands until the low byte's read, and the value may change meanwhile. -/
theorem highByteLatches : Obligations.HighByteLatches := by
  intro s s' target w w' h hitem
  have htwo : s.twoByteAt s.port.pointer w ∧ s'.twoByteAt s.port.pointer w' := by
    rcases hitem with ⟨hp, hw, hw'⟩ | ⟨i, hp, hw, hw'⟩
    · exact ⟨.inl ⟨hp, hw⟩, .inl ⟨hp, hw'⟩⟩
    · exact ⟨.inr ⟨i, hp, hw⟩, .inr ⟨i, hp, hw'⟩⟩
  refine ⟨_, State.read_high h htwo.1, rfl, rfl, rfl, rfl, fun h' hp => ⟨fun hl => ?_, fun hl => ?_⟩⟩
  · refine ⟨_, State.read_low h' htwo.2 hp, ?_, rfl⟩
    simp only [State.lowByteRead, hl, if_true]
  · refine ⟨_, State.read_low h' htwo.2 hp, ?_⟩
    simp only [State.lowByteRead, hl]

/-- Settles O45: every item here is a single byte, read with no latch left. -/
theorem itemsRead : Obligations.ItemsRead := by
  refine ⟨fun s target h hp hr => ?_, fun s target h => ?_⟩
  · have hs : streaming s.port.pointer = false :=
      streaming_false (by omega) (by omega) (by omega) (by omega)
    have hbyte := State.itemByte_single (s := s) (item := s.port.pointer) (by omega) (by omega) (by omega)
    refine ⟨_, State.read_single h hs (by omega) (by omega), rfl, rfl, rfl, fun h0 => ?_, fun h1 => ?_,
      fun h2 => ?_, fun h3 => ?_⟩ <;> dsimp only
    · rw [hbyte, h0]
      change (s.statusState).toNat = _
      unfold State.statusState
      cases s.ctl.mode <;> cases s.ctl.outcome <;> cases s.ctl.stopCause <;> rfl
    · rw [hbyte, h1]
      change (s.statusRefused).toNat = _
      simp only [State.statusRefused, byteOf, BitVec.toNat_ofNat]
      omega
    · have hflags := statusFlags_bits s.peers.gateConflict s.peers.gateShort s.starved s.gate.flood
        s.port.accessRefused s.ctl.withdrawReason
      rw [hbyte, h2]
      exact hflags
    · rw [hbyte, h3]
      change (s.statusFault).toNat = _
      unfold State.statusFault
      rcases s.ctl.faultCause with _ | _ | _ <;> rfl
  · intro read
    have hread (x : Byte) (hx : s.itemByte s.port.pointer = x) (hs : streaming s.port.pointer = false)
        (h4 : s.port.pointer.toNat ≠ 4) (hr : s.port.pointer.toNat < 0x80 ∨ 0xBB < s.port.pointer.toNat) :
        exec (.highByteRead target) s = .next (read x) := hx ▸ State.read_single h hs h4 hr
    refine ⟨fun i hi => ?_, fun hp => ?_, fun i x hx hi => ?_, fun hi => ?_⟩
    · have hlt := i.isLt
      refine hread _ ?_ (streaming_false (by omega) (by omega) (by omega) (by omega)) (by omega) (by omega)
      rw [State.itemByte_plain (by omega) (by omega) (by omega), dif_pos (by omega)]
      simp only [hi, Nat.add_sub_cancel_left]
      rfl
    · refine hread _ ?_ ?_ ?_ ?_ <;> rw [hp]
      · rfl
      · rfl
      · decide
      · decide
    · have hi6 : i < 6 := by
        have hlen := (List.getElem?_eq_some_iff.mp hx).1
        simpa using hlen
      refine hread _ ?_ (streaming_false (by omega) (by omega) (by omega) (by omega)) (by omega) (by omega)
      rw [State.itemByte_plain (by omega) (by omega) (by omega), dif_neg (by omega), hi]
      interval_cases i <;> exact congrArg (BitVec.ofNat 8) (Option.some.inj hx)
    · have hnat : s.port.pointer.toNat = 0x40 ∨ s.port.pointer.toNat = 0xC0 ∨ s.port.pointer.toNat = 0xC2
          ∨ s.port.pointer.toNat = 0xC3 ∨ s.port.pointer.toNat = 0xC4 ∨ s.port.pointer.toNat = 0xC6
          ∨ (6 ≤ s.port.pointer.toNat ∧ s.port.pointer.toNat ≤ 0x0F)
          ∨ (0x31 ≤ s.port.pointer.toNat ∧ s.port.pointer.toNat ≤ 0x37)
          ∨ (0x41 ≤ s.port.pointer.toNat ∧ s.port.pointer.toNat ≤ 0x7F)
          ∨ (0xBC ≤ s.port.pointer.toNat ∧ s.port.pointer.toNat ≤ 0xBF) ∨ 0xC8 ≤ s.port.pointer.toNat := by
        simp only [List.mem_cons, List.not_mem_nil, or_false] at hi
        rcases hi with (hp | hp | hp | hp | hp | hp) | hi
        case inr => omega
        all_goals rw [hp]; decide
      refine hread _ ?_ (streaming_false (by omega) (by omega) (by omega) (by omega)) (by omega) (by omega)
      rw [State.itemByte_plain (by omega) (by omega) (by omega), dif_neg (by omega)]
      unfold Plan.itemByte
      split
      case h_7 => rfl
      all_goals omega

/-- Settles O46: each row is one byte written to item 0x40. -/
theorem clearAndReload : Obligations.ClearAndReload := by
  intro s target h
  refine ⟨fun hm => ?_, fun hm => ?_, fun hm => ⟨Config.outcomeDuringReload, ?_⟩, fun hm => ?_⟩
  · exact congrArg Host.Outcome.next
      (State.writeItem_accepted h (State.acceptData_clear (s := s.opened 0x40) hm))
  · exact congrArg Host.Outcome.next
      (State.writeItem_refused h (State.acceptData_fault (s := s.opened 0x40) hm))
  · exact congrArg Host.Outcome.next
      (State.writeItem_accepted h (State.acceptData_reload (s := s.opened 0x40) hm))
  · exact congrArg Host.Outcome.next
      (State.writeItem_refused h (State.acceptData_reload_refused (s := s.opened 0x40) hm))

/-- Settles O47: the copies are the rows of the table of R177, byte for byte. -/
theorem viewRequests : Obligations.ViewRequests := by
  intro s target v h
  have htrack : s.takeSnapshot = ⟨BitVec.ofNat 8 s.track.length :: twoBytes s.clk.n.toNat
      ++ s.track.flatMap (trackRow s.cfg.number s.clk.n), 0⟩ := by
    have hrows : jarBytes s.cfg s.clk.n = trackRow s.cfg.number s.clk.n := funext (jarBytes_eq _ _)
    simp only [State.takeSnapshot, wordBytes_eq, hrows]
    rfl
  have hgate : gateBytes s.cfg s.clk.n = gateRow s.cfg.gateOffset s.clk.n := by
    funext e
    simp only [gateBytes, gateRow, wordBytes_eq]
    rfl
  have hflood : flagBit 0 s.gate.flood = if s.gate.flood = true then 1 else 0 := by
    cases s.gate.flood <;> rfl
  refine ⟨fun hm => ⟨fun k hk => ?_, fun hv => ?_, ?_, fun hg => ?_, fun hg => ?_⟩, fun hm => ⟨?_, ?_, ?_⟩⟩
  · have hrow : s.takePeerView k = ⟨peerRow (decide (s.cfg.number = stationNum k)) (s.peer k), 0⟩ := by
      rw [State.takePeerView, peerBytes_eq]
      rfl
    have hw := State.writeItem_accepted h (State.acceptData_peerView (s := s.opened 0xC0) hm hk)
    rw [← hrow]
    exact congrArg Host.Outcome.next hw
  · exact congrArg Host.Outcome.next (State.writeItem_refused h (State.acceptData_peerView_refused hv))
  · have hw := State.writeItem_accepted h (State.acceptData_trackView (s := s.opened 0xC4) (value := v) hm)
    rw [← htrack]
    exact congrArg Host.Outcome.next hw
  · have hrow : s.takeGateView = ⟨[BitVec.ofNat 8 s.gate.queue.length, if s.gate.flood = true then 1 else 0]
        ++ twoBytes s.clk.n.toNat ++ s.gate.queue.flatMap (gateRow s.cfg.gateOffset s.clk.n), 0⟩ := by
      simp only [State.takeGateView, hg, if_true, hgate, hflood, wordBytes_eq]
      rfl
    have hw := State.writeItem_accepted h (State.acceptData_gateView (s := s.opened 0xC6) (value := v) hm)
    rw [← hrow]
    exact congrArg Host.Outcome.next hw
  · have hrow : s.takeGateView
        = ⟨[0, if s.gate.flood = true then 1 else 0] ++ twoBytes s.clk.n.toNat, 0⟩ := by
      simp only [State.takeGateView, hg, hflood, wordBytes_eq]
      simp [byteOf]
    have hw := State.writeItem_accepted h (State.acceptData_gateView (s := s.opened 0xC6) (value := v) hm)
    rw [← hrow]
    exact congrArg Host.Outcome.next hw
  · exact congrArg Host.Outcome.next
      (State.writeItem_refused h (State.acceptData_fault (s := s.opened 0xC0) hm))
  · exact congrArg Host.Outcome.next
      (State.writeItem_refused h (State.acceptData_fault (s := s.opened 0xC4) hm))
  · exact congrArg Host.Outcome.next
      (State.writeItem_refused h (State.acceptData_fault (s := s.opened 0xC6) hm))

/-- Settles O48: each row is one read with the pointer on the view's data item. -/
theorem viewDataRead : Obligations.ViewDataRead := by
  intro s target h port moved byte
  have hbyte (w : View) : w.current = byte w := by
    simp only [View.current, byte, List.getD_eq_getElem?_getD]
  refine ⟨?_, ?_, ?_⟩
  · rw [← hbyte]
    exact congrArg Host.Outcome.next (State.readItem_addressed (item := 0xC1) h)
  · rw [← hbyte]
    exact congrArg Host.Outcome.next (State.readItem_addressed (item := 0xC5) h)
  · rw [← hbyte]
    exact congrArg Host.Outcome.next (State.readItem_addressed (item := 0xC7) h)

end Sys2Proof.Proofs
end


section
/-! PROOF. Power-up, the queue of commands, the autoload, and the encoder (O1 to O5, O38, O39, O60). -/

namespace Sys2Proof.Machine

variable {s : State}

/-! ### The autoload -/

/-- The nine bytes of a block, in order. -/
theorem block_toList (d : Vector Byte 9) :
    d.toList = [d[0], d[1], d[2], d[3], d[4], d[5], d[6], d[7], d[8]] := by
  refine List.ext_getElem (by simp) fun i hi _ => ?_
  simp only [Vector.length_toList] at hi
  interval_cases i <;> rfl

/-- Stored image bytes stand in their places, and the rest of the image as before (R164). -/
theorem State.storeBytes_image (l : List Byte) (first : Nat) (s : State) (h : first + l.length ≤ 33) :
    ∃ img : Image, State.storeBytes first l s = { s with ctl := { s.ctl with image := img } }
      ∧ ∀ i : Fin 33, img.get i = if hi : first ≤ i.val ∧ i.val < first + l.length then
          l[i.val - first] else s.ctl.image.get i := by
  induction l generalizing first s with
  | nil =>
    refine ⟨s.ctl.image, rfl, fun i => ?_⟩
    rw [dif_neg (by simp)]
  | cons v rest ih =>
    simp only [List.length_cons] at h
    have hfirst : first < 33 := by omega
    obtain ⟨img, himg, hget⟩ := ih (first + 1) (s.storeByte first v) (by omega)
    refine ⟨img, ?_, fun i => ?_⟩
    · rw [State.storeBytes, himg, State.storeByte, dif_pos hfirst]
    · rw [hget i]
      by_cases hat : i.val = first
      · subst hat
        rw [dif_neg (by omega), dif_pos (by simp)]
        simp only [State.storeByte, dif_pos hfirst, Nat.sub_self, List.getElem_cons_zero]
        exact vec_get_set_same s.ctl.image i v
      · by_cases hin : first + 1 ≤ i.val ∧ i.val < first + 1 + rest.length
        · rw [dif_pos hin, dif_pos (by simp only [List.length_cons]; omega)]
          rw [List.getElem_cons, dif_neg (by omega)]
          congr 1
        · rw [dif_neg hin, dif_neg (by simp only [List.length_cons]; omega)]
          simp only [State.storeByte, dif_pos hfirst]
          exact vec_get_set_other s.ctl.image ⟨first, hfirst⟩ i v fun he => hat (congrArg Fin.val he).symm

theorem State.storeBytes_append (l l' : List Byte) (first : Nat) (s : State) :
    State.storeBytes first (l ++ l') s = State.storeBytes (first + l.length) l' (State.storeBytes first l s) := by
  induction l generalizing first s with
  | nil => rfl
  | cons v rest ih =>
    simp only [List.cons_append, State.storeBytes, ih, List.length_cons]
    congr 1
    omega

/-- Bytes past the settings go to the torque profile table (R165). -/
theorem State.storeBytes_profile (x y z : Byte) (first : Nat) (s : State) (h : 33 ≤ first) :
    State.storeBytes first [x, y, z] s
      = { s with verdicts := ((s.verdicts.writeData x).writeData y).writeData z } := by
  simp only [State.storeBytes, State.storeByte, dif_neg (show ¬ first < 33 by omega),
    dif_neg (show ¬ first + 1 < 33 by omega), dif_neg (show ¬ first + 1 + 1 < 33 by omega)]

/-- Three bytes at part 0 with nothing staged commit one entry, amax raised to amin, and move on (R137, R138). -/
theorem VerdictUnit.writeData_entry {u : VerdictUnit} (x y z : Byte) (hp : u.part = 0)
    (ht : u.stagedTarget = none) (ha : u.stagedAmin = none) :
    ((u.writeData x).writeData y).writeData z = { u with
      profile := u.profile.set u.band.val ⟨x, y, if z.toNat < y.toNat then y else z⟩ u.band.isLt
      band := u.band + 1 } := by
  obtain ⟨profile, band, part, target, amin⟩ := u
  simp only at hp ht ha
  subst hp ht ha
  rfl

/-- The autoload's answer of an acknowledged block (R165). -/
theorem State.exec_autoloadBlock (h : s.ctl.mode = .loading) (ack : Bool) (d : Vector Byte 9) :
    exec (.autoloadBlock ack d) s = .next (s.takeBlock ack d) := by
  simp only [exec, execAutoloadBlock, h, if_true]

/-- What an acknowledged block leaves, once its bytes are stored. -/
theorem State.takeBlock_stored {d : Vector Byte 9} {u : State}
    (hu : State.storeBytes (9 * s.ctl.loadBlock) d.toList { s with ctl := { s.ctl with portSilent := false } } = u) :
    s.takeBlock true d = if s.ctl.loadBlock < 8 then
      { u with ctl := { u.ctl with loadBlock := s.ctl.loadBlock + 1 } } else u.endAutoload .loadOk := by
  simp only [State.takeBlock, if_true, hu]

/-- The first six bytes of a block. -/
theorem block_firstSix (d : Vector Byte 9) (k : Nat) (h : k < 6) :
    [d[0], d[1], d[2], d[3], d[4], d[5]][k] = d.get ⟨k, by omega⟩ := by
  interval_cases k <;> rfl

/-- A block of three profile entries (R165). -/
theorem State.storeBytes_entries (d : Vector Byte 9) (first : Nat) (s : State) (h : 33 ≤ first)
    (hp : s.verdicts.part = 0) (ht : s.verdicts.stagedTarget = none) (ha : s.verdicts.stagedAmin = none) :
    let b := s.verdicts.band
    let entry (x y z : Byte) : ProfileEntry := ⟨x, y, if z.toNat < y.toNat then y else z⟩
    State.storeBytes first d.toList s = { s with
      verdicts := { s.verdicts with
        profile := ((s.verdicts.profile.set b.val (entry d[0] d[1] d[2]) b.isLt).set (b + 1).val
          (entry d[3] d[4] d[5]) (b + 1).isLt).set (b + 2).val (entry d[6] d[7] d[8]) (b + 2).isLt
        band := b + 3 } } := by
  intro b entry
  have hlist : d.toList = [d[0], d[1], d[2]] ++ ([d[3], d[4], d[5]] ++ [d[6], d[7], d[8]]) := block_toList d
  have h2 : b + 1 + 1 = b + 2 := by rw [add_assoc]; rfl
  have h3 : b + 2 + 1 = b + 3 := by rw [add_assoc]; rfl
  rw [hlist, State.storeBytes_append, State.storeBytes_append, State.storeBytes_profile _ _ _ _ _ h,
    State.storeBytes_profile _ _ _ _ _ (by omega), State.storeBytes_profile _ _ _ _ _ (by omega)]
  dsimp only
  rw [VerdictUnit.writeData_entry d[0] d[1] d[2] hp ht ha,
    VerdictUnit.writeData_entry d[3] d[4] d[5] (by exact hp) (by exact ht) (by exact ha),
    VerdictUnit.writeData_entry d[6] d[7] d[8] (by exact hp) (by exact ht) (by exact ha)]
  simp only [entry, ← h2, ← h3]
  rfl

/-! ### The encoder -/

/-- A sample in a run, by the kind of its step (R1, R2). -/
theorem State.exec_encoderStep (hr : s.inRun = true) (pair : EncPair) (pins : StrobePins) :
    exec (.encoderStep pair pins) s = .next
      (match stepKind s.clk.phase pair with
        | .up => State.upStep pins { s with clk := { s.clk with phase := pair } }
        | .down => State.downStep { s with clk := { s.clk with phase := pair } }
        | .noStep => { s with clk := { s.clk with phase := pair } }) := by
  simp only [exec, execEncoderStep, State.encoderSample, hr, if_true] <;> rfl

theorem stepKind_up {phase pair : EncPair} (h : (phase, pair) ∈ upTable) : stepKind phase pair = .up := by
  obtain ⟨a, b⟩ := phase
  obtain ⟨c, d⟩ := pair
  revert h
  revert a b c d
  decide

theorem stepKind_down {phase pair : EncPair} (h : (pair, phase) ∈ upTable) : stepKind phase pair = .down := by
  obtain ⟨a, b⟩ := phase
  obtain ⟨c, d⟩ := pair
  revert h
  revert a b c d
  decide

theorem stepKind_none {phase pair : EncPair} (hu : (phase, pair) ∉ upTable) (hd : (pair, phase) ∉ upTable) :
    stepKind phase pair = .noStep := by
  obtain ⟨a, b⟩ := phase
  obtain ⟨c, d⟩ := pair
  revert hu hd
  revert a b c d
  decide

end Sys2Proof.Machine

namespace Sys2Proof.Proofs
open Sys2Proof.Machine

/-- Settles O1: the two cases of `step`. -/
theorem stepRunsFrontCommand : Obligations.StepRunsFrontCommand := by
  refine ⟨fun c rest s h => ?_, fun s h => ?_⟩
  · simp only [step, h]
  · simp only [step, h]

/-- Settles O2: both commands give the power-up values. -/
theorem powerUpAndReset : Obligations.PowerUpAndReset := by
  intro straps pair s
  refine ⟨State.powerUpValues { s.pins with straps := straps } pair s.pending, rfl, rfl, rfl, rfl, rfl,
    fun i => vec_get_replicate 0 i, rfl, rfl, rfl, rfl, rfl, rfl, rfl, rfl,
    fun k => vec_get_replicate Peer.unheard k, rfl, rfl, rfl, rfl, rfl, rfl, rfl, rfl,
    fun b => vec_get_replicate ProfileEntry.zero b, rfl, rfl, rfl, rfl, rfl, rfl, rfl, rfl, rfl, rfl,
    fun i => vec_get_replicate 0 i, rfl, rfl⟩

/-- Settles O60: the reset state is closed, and each law is decided on it. -/
theorem resetMeetsLaws : Obligations.ResetMeetsLaws := by
  refine ⟨?_, ?_, ?_, ?_, ?_, ?_, ?_, ?_, ?_, ?_, ?_, ?_, ?_⟩ <;> decide

/-- Settles O38: nine bytes at the place that the block number gives them. -/
theorem autoloadStores : Obligations.AutoloadStores := by
  intro s d hm entry
  refine ⟨fun hb => ?_, fun hb hp ht ha => ?_, fun hb hb' hp ht ha => ?_⟩
  · obtain ⟨img, himg, hget⟩ := State.storeBytes_image d.toList (9 * s.ctl.loadBlock)
      { s with ctl := { s.ctl with portSilent := false } } (by simp; omega)
    refine ⟨img, ?_, fun i => ?_⟩
    · rw [State.exec_autoloadBlock hm, State.takeBlock_stored himg, if_pos (by omega)]
    · rw [hget i]
      simp only [Vector.length_toList]
      split
      · exact Vector.getElem_toList _
      · rfl
  · obtain ⟨img, himg, hget⟩ := State.storeBytes_image [d[0], d[1], d[2], d[3], d[4], d[5]] 27
      { s with ctl := { s.ctl with portSilent := false } } (by simp)
    have hlist : d.toList = [d[0], d[1], d[2], d[3], d[4], d[5]] ++ [d[6], d[7], d[8]] := block_toList d
    have hstored := State.storeBytes_append [d[0], d[1], d[2], d[3], d[4], d[5]] [d[6], d[7], d[8]] 27
      { s with ctl := { s.ctl with portSilent := false } }
    rw [himg, State.storeBytes_profile _ _ _ _ _ (by simp), ← hlist] at hstored
    dsimp only at hstored
    rw [VerdictUnit.writeData_entry d[6] d[7] d[8] hp ht ha, show 27 = 9 * s.ctl.loadBlock by omega] at hstored
    refine ⟨img, ?_, fun i => ?_⟩
    · rw [State.exec_autoloadBlock hm, State.takeBlock_stored hstored, if_pos (by omega), hb]
    · have hi := i.isLt
      rw [hget i]
      by_cases h27 : 27 ≤ i.val
      · rw [dif_pos (by simp; omega), dif_pos h27]
        exact block_firstSix d _ (by omega)
      · rw [dif_neg (by omega), dif_neg h27]
  · have hstored := State.storeBytes_entries d (9 * s.ctl.loadBlock)
      { s with ctl := { s.ctl with portSilent := false } } (by omega) hp ht ha
    refine ⟨fun hlt => ?_, fun hend => ?_⟩
    · rw [State.exec_autoloadBlock hm, State.takeBlock_stored hstored, if_pos hlt]
    · rw [State.exec_autoloadBlock hm, State.takeBlock_stored hstored, if_neg (by omega)]
      rfl

/-- Settles O39: an unanswered request ends the autoload with what has been read. -/
theorem autoloadEnds : Obligations.AutoloadEnds := by
  intro s d ack
  refine ⟨fun hm hb => ?_, fun hm hb => ?_, fun hm => ?_⟩
  · rw [State.exec_autoloadBlock hm]
    simp only [State.takeBlock, State.endAutoload, hb, if_true]
    rfl
  · rw [State.exec_autoloadBlock hm]
    simp only [State.takeBlock, State.endAutoload, Nat.pos_iff_ne_zero.mp hb, if_false]
    rfl
  · simp only [exec, execAutoloadBlock, hm, if_false]

/-- Settles O3, by the kind of the step. -/
theorem encoderSteps : Obligations.EncoderSteps := by
  refine ⟨fun pair pins s hr => ?_, fun pair pins s hr => ⟨fun hu => ⟨fun hne => ?_, fun he hno => ?_,
    fun he hst => ?_⟩, fun hu hd => ?_⟩, fun pair pins s hr hd => ⟨fun hle => ?_, fun hlt => ?_⟩⟩
  · simp only [exec, execEncoderStep, State.encoderSample, hr]
    rfl
  · rw [State.exec_encoderStep hr, stepKind_up hu]
    exact congrArg Host.Outcome.next (if_neg hne)
  · have hst : ¬ strobeAt s.cfg (s.clk.h + 1) = true := fun h => hno ((strobeAt_iff s.cfg _).mp h)
    rw [State.exec_encoderStep hr, stepKind_up hu]
    exact congrArg Host.Outcome.next ((if_pos he).trans (if_neg hst))
  · have hst : strobeAt s.cfg (s.clk.h + 1) = true := (strobeAt_iff s.cfg _).mpr hst
    rw [State.exec_encoderStep hr, stepKind_up hu, exec_pitchStrobe _ _ (by exact hr)]
    exact congrArg Host.Outcome.next ((if_pos he).trans (if_pos hst))
  · rw [State.exec_encoderStep hr, stepKind_none hu hd]
  · rw [State.exec_encoderStep hr, stepKind_down hd]
    exact congrArg Host.Outcome.next (if_neg (Nat.not_lt.mpr hle))
  · have hstop : State.downStep { s with clk := { s.clk with phase := pair } }
        = State.runStop .reverse { s with clk := { s.clk with phase := pair, c := s.clk.c - 1 } } := if_pos hlt
    refine ⟨State.runStop .reverse { s with clk := { s.clk with phase := pair, c := s.clk.c - 1 } }, ?_, ?_⟩
    · rw [State.exec_encoderStep hr, stepKind_down hd, hstop]
    · rw [State.runStop_frame]
      exact ⟨rfl, rfl, rfl, rfl, rfl, rfl, rfl, rfl, rfl, rfl, rfl, rfl, rfl⟩

end Sys2Proof.Proofs
end


section
/-! PROOF. A strobe on the whole track (O4), and the record that it sights (O5): no rule of the same strobe acts
on a record at distance 0. -/

namespace Sys2Proof.Machine

variable {s t : State}

/-! ### The track through a chain of edits -/

/-- Records that follow those of a track in its order keep their pitches, temperatures and bands. -/
theorem map_frame_of_follows {l l' : List Jar} (hp : l'.map Jar.pitch = l.map Jar.pitch)
    (hd : (l.map Jar.pitch).Nodup) (hf : ∀ j' ∈ l', ∃ j ∈ l, j.Follows j') :
    l'.map (fun j => (j.pitch, j.temp, j.band)) = l.map (fun j => (j.pitch, j.temp, j.band)) := by
  have hlen : l'.length = l.length := by simpa using congrArg List.length hp
  refine List.ext_getElem (by simpa using hlen) fun i hi hi' => ?_
  simp only [List.length_map] at hi hi'
  obtain ⟨j, hj, hfj⟩ := hf l'[i] (List.getElem_mem hi)
  have hpi : l'[i].pitch = l[i].pitch := by
    have hget := List.getElem_of_eq hp (by simpa using hi)
    simpa using hget
  have hji : j = l[i] :=
    List.inj_on_of_nodup_map hd hj (List.getElem_mem hi') (hfj.pitch.symm.trans hpi)
  simp only [List.getElem_map, Prod.mk.injEq]
  exact ⟨hpi, hji ▸ hfj.temp, hji ▸ hfj.band⟩

/-- The sighted track has no two records of one pitch. -/
theorem State.TrackLaw.sighted_nodup (h : s.TrackLaw) (pins : StrobePins) :
    ((s.sighted pins).track.map Jar.pitch).Nodup := by
  rw [State.sighted_frame]
  dsimp only
  rw [List.map_append, List.nodup_append]
  refine ⟨h.nodup.sublist (List.filter_sublist.map _), ?_, ?_⟩
  · split <;> simp
  · intro p hp q hq
    obtain ⟨j, hj, rfl⟩ := List.mem_map.mp hp
    split at hq
    · simp only [List.map_cons, List.map_nil, List.mem_singleton] at hq
      rw [hq]
      exact h.lacks_next j (List.mem_filter.mp hj).1
    · simp at hq

/-! ### The sighted record -/

/-- The record sighted stands as it was made, OPEN and alone under its pitch, and the jar is counted once. -/
structure State.Fresh (j : Jar) (c : Word) (s : State) : Prop where
  jar : ∀ x ∈ s.track, x.pitch = j.pitch → x = j
  seen : s.counters.get ctrJarsSeen = c
  open_ : j.st = .openJar

/-- The record in the chuck is not OPEN. -/
theorem State.chuckJar_not_open {x : Jar} {m : Measurements} (h : s.chuckJar? = some (x, m)) :
    x ∈ s.track ∧ x.st ≠ .openJar := by
  obtain ⟨hmem, hst, -⟩ := s.chuckJar_some h
  exact ⟨hmem, by rw [hst]; exact JarState.noConfusion⟩

namespace State.Fresh

variable {j x k : Jar} {c : Word}

/-- What leaves the track and the count of jars seen leaves the record. -/
theorem congr (h : s.Fresh j c) (ht : t.track = s.track) (hc : t.counters = s.counters) : t.Fresh j c :=
  ⟨by rw [ht]; exact h.jar, by rw [hc]; exact h.seen, h.open_⟩

theorem countBy (h : s.Fresh j c) (i : Fin 30) (n : Nat) (hi : i ≠ ctrJarsSeen) : (s.countBy i n).Fresh j c :=
  ⟨h.jar, (s.countBy_get_other i _ n hi).trans h.seen, h.open_⟩

theorem count (h : s.Fresh j c) (i : Fin 30) (hi : i ≠ ctrJarsSeen) : (s.count i).Fresh j c := h.countBy i 1 hi

theorem ite {p : Prop} [Decidable p] (h : s.Fresh j c) (h' : t.Fresh j c) : (if p then s else t).Fresh j c := by
  split
  · exact h
  · exact h'

theorem enqueue (h : s.Fresh j c) (f : TxFrame) : (s.enqueue f).Fresh j c :=
  .ite (h.congr rfl rfl) (h.count _ (by decide))

/-- A record in a state other than OPEN is not the one sighted. -/
theorem other (h : s.Fresh j c) (hx : x ∈ s.track) (hs : x.st ≠ .openJar) : x.pitch ≠ j.pitch := fun hp =>
  hs ((congrArg Jar.st (h.jar x hx hp)).trans h.open_)

theorem updJar (h : s.Fresh j c) {p : Word} (hp : p ≠ j.pitch) (f : Jar → Jar)
    (hf : ∀ y, y.pitch = p → (f y).pitch = p) : (s.updJar p f).Fresh j c := by
  refine ⟨fun y hy hpy => ?_, h.seen, h.open_⟩
  obtain ⟨z, hz, rfl⟩ := s.mem_updJar.mp hy
  by_cases hzp : z.pitch = p
  · rw [if_pos hzp] at hpy
    exact absurd ((hf z hzp).symm.trans hpy) hp
  · rw [if_neg hzp] at hpy ⊢
    exact h.jar z hz hpy

/-- Another record rewritten. -/
theorem putJar (h : s.Fresh j c) (hx : x ∈ s.track) (hs : x.st ≠ .openJar) (hp : k.pitch = x.pitch) :
    (s.putJar k).Fresh j c :=
  h.updJar (hp ▸ h.other hx hs) _ fun _ _ => rfl

theorem gateInsert (h : s.Fresh j c) (p : Word) (v : Verdict) : (s.gateInsert p v).Fresh j c := by
  unfold State.gateInsert
  exact .ite h (.ite (h.congr rfl rfl) (State.Fresh.count (by exact h.congr rfl rfl) ctrFloods (by decide)))

theorem handToGate (h : s.Fresh j c) (p : Word) (v : Verdict) (disp : Disposition) :
    (s.handToGate p v disp).Fresh j c := by
  unfold State.handToGate
  split
  · exact .ite (h.gateInsert p v) h
  · exact h

theorem countOwnVerdict (h : s.Fresh j c) (v : Verdict) : (s.countOwnVerdict v).Fresh j c := by
  unfold State.countOwnVerdict
  split
  · rename_i i hi
    exact h.count i fun he => by
      rw [he] at hi
      cases v <;> cases hi
  · exact h

theorem setOwnVerdict (h : s.Fresh j c) (hx : x ∈ s.track) (hs : x.st ≠ .openJar) (hp : k.pitch = x.pitch)
    (v : Verdict) (m : Measurements) : (s.setOwnVerdict k v m).Fresh j c := by
  unfold State.setOwnVerdict
  exact State.Fresh.handToGate (State.Fresh.enqueue (State.Fresh.countOwnVerdict
    (h.putJar hx hs (by exact hp)) v) _) _ _ _

theorem giveBack (h : s.Fresh j c) (hx : x ∈ s.track) (hs : x.st ≠ .openJar) : (s.giveBack x).Fresh j c := by
  unfold State.giveBack
  exact State.Fresh.enqueue (h.putJar (k := { x.discard with reopened := true }) hx hs rfl) _

theorem reopenHeldBy (h : s.Fresh j c) (q : Station) : (s.reopenHeldBy q).Fresh j c := by
  refine ⟨fun y hy hpy => ?_, h.seen, h.open_⟩
  obtain ⟨z, hz, rfl⟩ := List.mem_map.mp hy
  by_cases hq : z.heldBy q = true
  · rw [if_pos hq] at hpy
    obtain ⟨w, a, hw⟩ := Jar.heldBy_iff.mp hq
    have hne : z.st ≠ .openJar := by rw [hw]; exact JarState.noConfusion
    exact (h.other hz hne hpy).elim
  · rw [if_neg hq] at hpy ⊢
    exact h.jar z hz hpy

theorem setAside (h : s.Fresh j c) (q : Station) (p : Peer) : (s.setAside q p).Fresh j c :=
  State.Fresh.reopenHeldBy (s := s.putPeer q p) (h.congr rfl rfl) q

theorem reportLapse (h : s.Fresh j c) (q : Station) : (s.reportLapse q).Fresh j c := by
  unfold State.reportLapse
  dsimp only
  split
  · exact .ite (h.setAside q _) (h.congr rfl rfl)
  all_goals exact h

theorem lapseOne (h : s.Fresh j c) (p : Word) : (s.lapseOne p).Fresh j c := by
  unfold State.lapseOne
  split
  · exact h
  · rename_i x hx
    split
    · rename_i q w a hst
      refine .ite ?_ h
      have hput := h.putJar (k := x.reopen) (s.findJar_some hx).1 (by rw [hst]; exact JarState.noConfusion) rfl
      exact (hput.count ctrLapses (by decide)).reportLapse q
    all_goals exact h

theorem lapseChecks (h : s.Fresh j c) : s.lapseChecks.Fresh j c := by
  unfold State.lapseChecks
  have hfold (l : List Word) : ∀ t : State, t.Fresh j c → (l.foldl State.lapseOne t).Fresh j c := by
    induction l with
    | nil => exact fun _ ht => ht
    | cons p rest ih => exact fun t ht => ih _ (ht.lapseOne p)
  exact hfold _ s h

theorem noCap (h : s.Fresh j c) : s.noCap.Fresh j c := by
  unfold State.noCap
  split
  · rename_i x m hx
    obtain ⟨hmem, hst⟩ := State.chuckJar_not_open hx
    exact ((h.giveBack hmem hst).count _ (by decide)).congr rfl rfl
  · exact (h.count _ (by decide)).congr rfl rfl

theorem capCheck (h : s.Fresh j c) (cap : Bool) : (s.capCheck cap).Fresh j c := by
  unfold State.capCheck
  exact .ite (h.congr rfl rfl) (.ite (h.congr rfl rfl) h.noCap)

theorem endLift (h : s.Fresh j c) : s.endLift.Fresh j c := by
  unfold State.endLift
  split
  · rename_i x m hx
    obtain ⟨hmem, hst⟩ := State.chuckJar_not_open hx
    exact (h.putJar (k := { x with st := .probeWait m }) hmem hst rfl).congr rfl rfl
  · exact h.congr rfl rfl

theorem vacateChuck (h : s.Fresh j c) : s.vacateChuck.Fresh j c := by
  unfold State.vacateChuck
  split
  · split
    · exact h.endLift
    · exact .ite h.endLift h
  · exact h.congr rfl rfl
  all_goals exact h

theorem engageOrFall (h : s.Fresh j c) (pins : StrobePins) : (s.engageOrFall pins).Fresh j c := by
  unfold State.engageOrFall
  split
  · rename_i x hx
    split at hx
    · obtain ⟨hmem, hst, -⟩ := s.jarToEngage_some hx
      have hne : x.st ≠ .openJar := by rw [hst]; exact JarState.noConfusion
      have hput := h.putJar (k := { x with st := .inChuck ⟨0, 0, none⟩ }) hmem hne rfl
      have hbegin : (s.beginCycle x).Fresh j c :=
        (hput.count ctrCyclesStarted (by decide)).congr rfl rfl
      unfold State.engageStart
      refine .ite ?_ (hbegin.capCheck _)
      have hin : ({ x with st := .inChuck ⟨0, 0, none⟩ } : Jar) ∈ (s.beginCycle x).track := s.mem_putJar hmem rfl
      exact ((hbegin.putJar hin JarState.noConfusion (by rfl)).count _ (by decide)).congr rfl rfl
    · cases hx
  · exact h.congr rfl rfl

/-- A claim at distance 1 or more is of another record. -/
theorem claimOne (h : s.Fresh j c) {p : Word} (hp : p ≠ j.pitch) : (s.claimOne p).Fresh j c := by
  rcases s.claimOne_cases p with hsame | ⟨x, -, rfl, -, -, -, hmake⟩
  · rwa [hsame]
  · rw [hmake]
    have hput : (s.putJar { x with st := .claimed }).Fresh j c := h.updJar hp _ fun _ _ => rfl
    exact ((hput.enqueue (claimFrame s.cfg x)).count ctrClaimsMade (by decide)).congr rfl rfl

theorem endDrive (h : s.Fresh j c) (how : DriveEnd) : (s.endDrive how).Fresh j c := by
  unfold State.endDrive
  dsimp only
  split
  · exact h.congr rfl rfl
  · rename_i x m hx
    obtain ⟨hmem, hst⟩ := State.chuckJar_not_open hx
    have hended : State.Fresh j c { s with head := { s.head with phase := .ended } } := h.congr rfl rfl
    split
    · exact hended
    · exact hended.putJar hmem hst rfl
    · exact (hended.setOwnVerdict (k := x) hmem hst rfl _ _).congr rfl rfl

theorem holdEnd (h : s.Fresh j c) : s.holdEnd.Fresh j c := by
  unfold State.holdEnd
  split
  · exact h.congr rfl rfl
  · rename_i x m hx
    obtain ⟨hmem, hst⟩ := State.chuckJar_not_open hx
    refine .ite (.ite ?_ ?_) (h.congr rfl rfl)
    · exact (h.putJar (k := { x with overFlag := true }) hmem hst rfl).congr rfl rfl
    · exact (h.setOwnVerdict (k := x) hmem hst rfl _ _).congr rfl rfl

theorem leaveDrive (h : s.Fresh j c) : s.leaveDrive.Fresh j c := .ite h.holdEnd (h.congr rfl rfl)

theorem endDriveStage (h : s.Fresh j c) : s.endDriveStage.Fresh j c := by
  unfold State.endDriveStage
  have hend : (if s.head.phase = .running then s.endDrive .expiry else s).Fresh j c := .ite (h.endDrive _) h
  exact .ite hend.leaveDrive hend

theorem driveStart (h : s.Fresh j c) : s.driveStart.Fresh j c := by
  unfold State.driveStart
  dsimp only
  split
  · rename_i x m hx
    obtain ⟨hmem, hst⟩ := State.chuckJar_not_open hx
    have hstart : State.Fresh j c
        { s with head := { s.head with chuck := .drive, phase := .running, seatReached := false } } :=
      h.congr rfl rfl
    exact hstart.putJar hmem hst rfl
  · exact h.congr rfl rfl

theorem decideFlush (h : s.Fresh j c) : s.decideFlush.Fresh j c := by
  unfold State.decideFlush
  exact .ite (State.Fresh.count (State.Fresh.enqueue (by exact h.congr rfl rfl) _) ctrShortFlushes (by decide))
    (State.Fresh.enqueue (by exact h.congr rfl rfl) _)

theorem flushStart (h : s.Fresh j c) {p : Word} (hp : p ≠ j.pitch) : (s.flushStart p).Fresh j c := by
  unfold State.flushStart
  exact (h.decideFlush.updJar hp (fun y => { y with flush := if s.flushIsShort then .short else .full })
    fun _ hy => hy).congr rfl rfl

/-- The stages act on the record of the cycle, which is past E where a flush begins. -/
theorem stageWork (h : s.Fresh j c) (hn : s.dist j.pitch = 0) (he : 1 ≤ s.cfg.entryOffset) (pins : StrobePins) :
    (s.stageWork pins).Fresh j c := by
  unfold State.stageWork
  split
  · exact h
  · rename_i p hp
    dsimp only
    split
    · split
      · split
        · rename_i hd
          refine h.flushStart fun hpj => ?_
          rw [hpj, hn] at hd
          unfold flushBegin at hd
          omega
        · exact h
      · exact .ite h (h.capCheck _)
    · exact .ite (h.congr rfl rfl) (h.congr rfl rfl)
    · exact .ite h.driveStart h
    · exact .ite h.endDriveStage h
    · exact .ite h.holdEnd h
    all_goals exact h

theorem probe (h : s.Fresh j c) (pins : StrobePins) : (s.probe pins).Fresh j c := by
  unfold State.probe
  split
  · exact h
  · rename_i x hx
    obtain ⟨hmem, ⟨m, hm⟩, -⟩ := s.jarAtProbe_some hx
    split
    · exact h.setOwnVerdict (k := x) hmem (by rw [hm]; exact JarState.noConfusion) rfl _ _
    · exact h

theorem exitDecision (h : s.Fresh j c) (hn : s.dist j.pitch = 0)
    (hx : s.cfg.gateRole = true → 1 ≤ s.cfg.bankExit) : s.exitDecision.Fresh j c := by
  unfold State.exitDecision
  split
  · rename_i hg
    split
    · exact h
    · rename_i x hfind
      have hd : s.dist x.pitch = s.cfg.bankExit := by simpa using List.find?_some hfind
      have hpos := hx hg
      have hne : x.pitch ≠ j.pitch := fun he => by
        rw [he, hn] at hd
        omega
      have hput : (s.putJar { x with st := .done .uncapped .gate .reject none }).Fresh j c :=
        h.updJar hne _ fun _ _ => rfl
      exact .ite h ((hput.count _ (by decide)).gateInsert _ _)
  · exact h

/-- The record that the eye makes at a strobe. -/
theorem sighted (h : s.TrackLaw) {pins : StrobePins} (he : pins.eye = true) :
    (s.sighted pins).Fresh (newJar s.cfg (s.clk.n + 1) pins.temp)
      (satAdd (s.counters.get ctrJarsSeen) 1) := by
  have hmem : newJar s.cfg (s.clk.n + 1) pins.temp ∈ (s.sighted pins).track := by
    rw [State.sighted_frame]
    simp [he]
  refine ⟨fun x hx hp => List.inj_on_of_nodup_map (h.sighted_nodup pins) hx hmem hp, ?_, rfl⟩
  have hgate : s.advanceN.gateDecision.counters.get ctrJarsSeen = s.counters.get ctrJarsSeen := by
    unfold State.gateDecision
    dsimp only
    split
    · split
      · exact State.countBy_get_other _ _ _ _ (by decide)
      · rfl
    · rfl
  rw [State.sighted, State.ageTrack, if_pos he, ← hgate]
  exact State.countBy_get_same _ _ _

/-- No rule of the strobe acts on the record that it sights. -/
theorem strobe (h : s.TrackLaw) (hf : s.cfg.Fit) {pins : StrobePins} (he : pins.eye = true) :
    (s.strobe pins).Fresh (newJar s.cfg (s.clk.n + 1) pins.temp) (satAdd (s.counters.get ctrJarsSeen) 1) := by
  have hframe := s.sighted_frame pins
  have hkeep {u : State} (hu : Edits false (s.sighted pins) u) :
      u.cfg = s.cfg ∧ u.dist (newJar s.cfg (s.clk.n + 1) pins.temp).pitch = 0 := by
    refine ⟨hu.standing.cfg.trans (by rw [hframe]), ?_⟩
    rw [hu.standing.dist, hframe]
    exact distance_self _
  have hentry := hf.entry.1
  have hexit (hg : s.cfg.gateRole = true) : 1 ≤ s.cfg.bankExit := by
    have hx := (hf.exit hg).1
    unfold Image.probeDistance at hx
    omega
  have hbefore := ((sighted h he).lapseChecks.vacateChuck).engageOrFall pins
  have hstale : (((((s.sighted pins).lapseChecks.vacateChuck).engageOrFall pins).dropStale).endDraws).Fresh
      (newJar s.cfg (s.clk.n + 1) pins.temp) (satAdd (s.counters.get ctrJarsSeen) 1) :=
    State.Fresh.congr (State.Fresh.countBy (hbefore.congr rfl rfl) ctrStaleRemovals _ (by decide)) rfl rfl
  have hedits := ((Edits.refl (b := false) (s := s.sighted pins)).lapseChecks.vacateChuck.engageOrFall
    pins).dropStale.endDraws
  have hclaimed := State.claimTest_keeps (P := fun u => u.Fresh (newJar s.cfg (s.clk.n + 1) pins.temp)
    (satAdd (s.counters.get ctrJarsSeen) 1))
    ((((s.sighted pins).lapseChecks.vacateChuck.engageOrFall pins).dropStale).endDraws) ?_ hstale
  · have hedits' := hedits.claimTest
    have hcfg := (hkeep hedits').1
    have hstaged := hclaimed.stageWork (hkeep hedits').2 (by rw [hcfg]; exact hentry) pins
    have hend := (hedits'.stageWork pins).probe pins
    refine (hstaged.probe pins).exitDecision (hkeep hend).2 fun hg => ?_
    rw [(hkeep hend).1] at hg ⊢
    exact hexit hg
  · intro u p hctl hclk _ hd hu
    refine hu.claimOne fun hp => ?_
    have hedge := (hkeep hedits).1
    have hzero := (hkeep hedits).2
    have hlead := hf.lead
    simp only [State.dist, State.cfg, hctl, hclk, hp] at hd hzero hedge hlead
    rw [hzero, hedge] at hd
    omega

end State.Fresh

end Sys2Proof.Machine

namespace Sys2Proof.Proofs
open Sys2Proof.Machine

/-- Settles O4: N and the sighting come first, and the rest of a strobe is a chain of edits, each of which keeps
the place, the temperature and the band of every record. -/
theorem strobeAdvancesTrack : Obligations.StrobeAdvancesTrack := by
  intro pins s ht
  refine ⟨fun hr => ⟨s.strobe pins, exec_pitchStrobe s pins hr, ?_⟩, fun hr => ?_⟩
  · have hedits := Edits.strobe s pins
    have hstand := hedits.standing
    have hline := hedits.line_frame
    have hframe := s.sighted_frame pins
    have htrack := map_frame_of_follows hedits.pitches (ht.sighted_nodup pins) hedits.follows
    refine ⟨State.strobe_clk pins, ?_, State.strobe_ctl pins, hstand.pins.trans (by rw [hframe]),
      State.strobe_verdicts pins, hstand.port.trans (by rw [hframe]), hstand.pending.trans (by rw [hframe]),
      State.strobe_plan pins, hline.1.trans (by rw [hframe]), hline.2.1.trans (by rw [hframe]),
      hline.2.2.1.trans (by rw [hframe]), hline.2.2.2.trans (by rw [hframe])⟩
    have hnew : (if pins.eye then [newJar s.cfg (s.clk.n + 1) pins.temp] else []).map
        (fun j => (j.pitch, j.temp, j.band))
        = if pins.eye then [(s.clk.n + 1, pins.temp, bandOf s.cfg pins.temp)] else [] := by
      split <;> rfl
    rw [htrack, hframe, List.map_append, hnew]
    rfl
  · simp only [exec, execPitchStrobe, hr]
    rfl

/-- Settles O5: the record sighted leaves the strobe as it was made. -/
theorem strobeSightsJar : Obligations.StrobeSightsJar := by
  intro pins s hr hc ht he
  have hf := hc.fit hr
  have hfresh := State.Fresh.strobe ht hf he
  have hpitches := (Edits.strobe s pins).pitches
  rw [State.sighted_frame] at hpitches
  simp only [he, if_true, List.map_append, List.map_cons, List.map_nil] at hpitches
  have hlast : ((s.strobe pins).track.map Jar.pitch).getLast? = some (s.clk.n + 1) := by
    rw [hpitches, List.getLast?_append]
    rfl
  rw [List.getLast?_map] at hlast
  obtain ⟨j, hj, hp⟩ := Option.map_eq_some_iff.mp hlast
  obtain rfl := hfresh.jar j (List.mem_of_getLast? hj) hp
  refine ⟨s.strobe pins, _, exec_pitchStrobe s pins hr, hj, rfl, rfl, rfl, rfl, rfl, rfl, rfl, rfl,
    fun hrail => ?_, fun h0 h255 => ?_, hfresh.seen⟩
  · have hat : pins.temp = 0 ∨ pins.temp = 255 :=
      hrail.imp (fun h => BitVec.eq_of_toNat_eq h) fun h => BitVec.eq_of_toNat_eq h
    exact if_pos hat
  · have hat : ¬ (pins.temp = 0 ∨ pins.temp = 255) := by
      rintro (h | h)
      · exact h0 (by rw [h]; rfl)
      · exact h255 (by rw [h]; rfl)
    refine ⟨_, if_neg hat, fun hle => ?_, fun _ => ?_⟩
    · rw [Nat.sub_eq_zero_of_le hle]
      simp
    · have hmin : min 15 ((pins.temp.toNat - s.cfg.tempBase) / s.cfg.bandWidth) < 16 := by omega
      exact Nat.mod_eq_of_lt hmin

end Sys2Proof.Proofs
end


section
/-! PROOF. The bank line's sending side and its watcher (O19 to O22, O24). -/

namespace Sys2Proof.Machine

variable {s : State}

/-! ### Removal from the queue (R93, R96) -/

/-- With nothing on the line every waiting frame may go, the head too. -/
theorem BankLine.removeWaiting_idle {l : BankLine} {f : TxFrame} {rest : List TxFrame} (gone : TxFrame → Bool)
    (hq : l.queue = f :: rest) (hs : l.sending = none) :
    l.removeWaiting gone = { l with
      queue := (f :: rest).filter (fun x => !gone x), retries := if gone f = true then 0 else l.retries } := by
  have hh : l.headOnLine = false := by simp only [BankLine.headOnLine, hs]
  simp only [BankLine.removeWaiting, hq, hh, Bool.false_eq_true, if_false]

/-- The head on the line stays, whatever a removal names. -/
theorem BankLine.removeWaiting_onLine {l : BankLine} {f : TxFrame} {rest : List TxFrame} {x : Sending}
    (gone : TxFrame → Bool) (hq : l.queue = f :: rest) (hs : l.sending = some x) (hx : x.detached = false) :
    l.removeWaiting gone = { l with queue := f :: rest.filter (fun x => !gone x) } := by
  have hh : l.headOnLine = true := by simp only [BankLine.headOnLine, hs, hx, Bool.not_false]
  simp only [BankLine.removeWaiting, hq, hh, if_true]

/-- A removal marks the frame on the line exactly when it names it. -/
theorem BankLine.doomSending_some {l : BankLine} {x : Sending} (gone : TxFrame → Bool) (hs : l.sending = some x) :
    l.doomSending gone = { l with sending := some { x with doomed := x.doomed || gone x.frame } } := by
  obtain ⟨frame, bytes, detached, doomed⟩ := x
  simp only [BankLine.doomSending, hs]
  cases gone frame
  · simp only [Bool.or_false, Bool.false_eq_true, if_false, ← hs]
  · simp only [Bool.or_true, if_true]

/-! ### A completed send and a collision (R95 to R99) -/

/-- What a completed send leaves of the line. -/
theorem State.completeSend_some {x : Sending} (hs : s.line.sending = some x) :
    s.completeSend =
      (if s.inRun = true ∧ x.frame.kind = .done then
        ({ s with line :=
            if x.detached then { s.line with sending := none, watcher := .ready, quiet := 0 }
            else { s.line with sending := none, watcher := .ready, quiet := 0 }.dropHead }.count
              ctrFramesSent).refresh s.cfg.own
      else { s with line :=
            if x.detached then { s.line with sending := none, watcher := .ready, quiet := 0 }
            else { s.line with sending := none, watcher := .ready, quiet := 0 }.dropHead }.count
              ctrFramesSent) := by
  simp only [State.completeSend, hs, Bool.and_eq_true, beq_iff_eq]

/-- A frame is stale at a collision by its kind and its age (R98, R99). -/
theorem staleFrame_iff (i : Image) (n : Word) (f : TxFrame) :
    staleFrame i n f = true ↔ (f.kind = .claim ∧ i.entryOffset ≤ (n - f.jar).toNat)
      ∨ (f.kind = .steam ∧ f.payA.toNat ≤ (n - f.jar).toNat) := by
  rw [staleFrame_eq]
  simp only [Bool.or_eq_true, Bool.and_eq_true, beq_iff_eq]
  rw [decide_eq_true_iff, decide_eq_true_iff]
  exact Iff.rfl

/-- A retry count has passed its limit, by the code of the limit (R97). -/
theorem Image.retryLimit_passed (i : Image) (count : Nat) :
    (∃ limit, i.retryLimit? = some limit ∧ limit < count) ↔
      (i.retryCode = 0 ∧ 4 < count) ∨ (i.retryCode = 1 ∧ 16 < count) ∨ (i.retryCode = 2 ∧ 64 < count) := by
  unfold Image.retryLimit?
  split <;> simp_all

variable {x : Sending}

/-- A stale head goes and is counted (R98, R99). -/
theorem State.afterCollision_stale (hr : s.inRun = true) (hx : staleFrame s.cfg s.clk.n x.frame = true) :
    s.afterCollision x = { s with line := s.line.dropHead }.count ctrStaleRemovals := by
  simp only [State.afterCollision, hr, hx, Bool.and_self, if_true]

variable (hx : ¬ (s.inRun = true ∧ staleFrame s.cfg s.clk.n x.frame = true))
include hx

/-- A head whose removal was asked for goes, and nothing counts it (R96). -/
theorem State.afterCollision_doomed (hd : x.doomed = true) :
    s.afterCollision x = { s with line := s.line.dropHead } := by
  simp only [State.afterCollision, Bool.and_eq_true, hx, if_false, hd, if_true]

/-- A head past its retry limit is dropped and counted (R97). -/
theorem State.afterCollision_passed (hd : x.doomed = false) {limit : Nat} (hl : s.cfg.retryLimit? = some limit)
    (hp : limit < s.line.retries) :
    s.afterCollision x = { s with line := s.line.dropHead }.count ctrRetryDrops := by
  simp only [State.afterCollision, Bool.and_eq_true, hx, if_false, hd, Bool.false_eq_true, hl, hp, if_true]

/-- Any other head waits on (R96). -/
theorem State.afterCollision_waits (hd : x.doomed = false)
    (hp : ¬ ∃ limit, s.cfg.retryLimit? = some limit ∧ limit < s.line.retries) : s.afterCollision x = s := by
  simp only [State.afterCollision, Bool.and_eq_true, hx, if_false, hd, Bool.false_eq_true]
  cases hl : s.cfg.retryLimit? with
  | none => rfl
  | some limit => exact if_neg fun h => hp ⟨limit, hl, h⟩

end Sys2Proof.Machine

namespace Sys2Proof.Proofs
open Sys2Proof.Machine

/-- Settles O22, by the place of the head: waiting in the queue, or on the line. -/
theorem removalFromQueue : Obligations.RemovalFromQueue := by
  intro gone l f rest hq
  refine ⟨fun hs => ?_, fun bytes doomed hs => ?_⟩
  · rw [BankLine.withdrawFrames, BankLine.removeWaiting_idle gone hq hs]
    simp only [BankLine.doomSending, hs]
  · rw [BankLine.withdrawFrames, BankLine.removeWaiting_onLine gone hq hs rfl]
    exact BankLine.doomSending_some (l := { l with queue := f :: rest.filter (fun x => !gone x) }) gone hs

/-- Settles O19, by the gate of a send attempt and then by the quiet time against the station's gap. -/
theorem sendAttemptLoads : Obligations.SendAttemptLoads := by
  intro elapsed s
  refine ⟨fun f rest hm hw hs hq => ?_, fun hc => ?_⟩
  · have hgo : ¬ (s.ctl.mode = .fault ∨ s.line.watcher = .stopped ∨ s.line.watcher = .assembling
        ∨ s.line.sending.isSome = true) := by
      rcases hw with hw | hw <;> simp [hm, hw, hs]
    refine ⟨fun hgap => ?_, fun hgap => ?_⟩
    · have hgap' : s.cfg.gap ≤ s.line.quietAfter elapsed := hgap
      simp only [exec, execSendAttempt, State.attemptSend, hgo, if_false, hq, hgap', if_true, BankLine.load]
    · have hgap' : ¬ s.cfg.gap ≤ s.line.quietAfter elapsed := Nat.not_le.mpr hgap
      simp only [exec, execSendAttempt, State.attemptSend, hgo, if_false, hq, hgap'] <;> rfl
  · refine congrArg Host.Outcome.next (if_pos ?_)
    rcases hc with h | h | h
    · exact .inl h
    · exact .inr (.inr (.inr h))
    · exact .inr (.inr (.inl h))

/-- Settles O20, by whether the frame on the line is the head of the queue, or one left by START. -/
theorem sendCompletes : Obligations.SendCompletes := by
  intro s f rest bytes doomed
  refine ⟨fun hs hq => ?_, fun hs => ?_, fun hs => ?_⟩
  · refine ⟨fun hk => ?_, fun hk hr => ?_⟩
    · refine congrArg Host.Outcome.next ((State.completeSend_some hs).trans ((if_neg ?_).trans ?_))
      · rintro ⟨hr, hd⟩
        exact hk.elim (fun h => h hd) fun h => by simp [h] at hr
      · simp [BankLine.dropHead, hq, State.count, State.countBy]
    · refine congrArg Host.Outcome.next ((State.completeSend_some hs).trans ((if_pos ⟨hr, hk⟩).trans ?_))
      simp [BankLine.dropHead, hq, State.count, State.countBy]
  · refine ⟨fun hk => ?_, fun hk hr => ?_⟩
    · refine congrArg Host.Outcome.next ((State.completeSend_some hs).trans (if_neg ?_))
      rintro ⟨hr, hd⟩
      exact hk.elim (fun h => h hd) fun h => by simp [h] at hr
    · exact congrArg Host.Outcome.next ((State.completeSend_some hs).trans (if_pos ⟨hr, hk⟩))
  · exact congrArg Host.Outcome.next (by simp only [State.completeSend, hs])

/-- Settles O21, by what becomes of the head: stale, doomed, past its limit, or waiting on. -/
theorem collisionRetries : Obligations.CollisionRetries := by
  intro s f rest bytes doomed hs hq again stale passed released gone
  let t : State := { released with line := { released.line with retries := again } }
  have hstale : stale ↔ t.inRun = true ∧ staleFrame t.cfg t.clk.n f = true := by
    rw [staleFrame_iff]
    exact Iff.rfl
  have hpassed : passed ↔ ∃ limit, t.cfg.retryLimit? = some limit ∧ limit < t.line.retries :=
    (Image.retryLimit_passed t.cfg again).symm
  have hcollide : exec .collision s = .next (t.afterCollision ⟨f, bytes, false, doomed⟩) := by
    simp only [exec, execCollision, State.collide, hs, Bool.false_eq_true, if_false]
    rfl
  have hgone : { t with line := t.line.dropHead } = gone := by
    simp only [t, gone, released, BankLine.dropHead, State.count, State.countBy, hq, List.tail_cons]
  rw [hcollide, hstale, hpassed]
  refine ⟨fun h => ?_, fun h hd => ?_, fun h hd hp => ?_, fun h hd hp => ?_⟩
  · rw [State.afterCollision_stale (x := ⟨f, bytes, false, doomed⟩) h.1 h.2, hgone]
  · rw [State.afterCollision_doomed (x := ⟨f, bytes, false, doomed⟩) h hd, hgone]
  · obtain ⟨limit, hl, hp⟩ := hp
    rw [State.afterCollision_passed (x := ⟨f, bytes, false, doomed⟩) h hd hl hp, hgone]
  · rw [State.afterCollision_waits (x := ⟨f, bytes, false, doomed⟩) h hd hp]

/-- Settles O24, by the state of the watcher. -/
theorem lineWatcher : Obligations.LineWatcher := by
  intro elapsed s
  refine ⟨fun hw => ?_, fun hw => ?_, fun hw => ?_, fun hw hs => ?_⟩
  · simp only [exec, execFrameStart, BankLine.startFrame, hw]
  · simp only [exec, execFrameStart, BankLine.startFrame, hw, BankLine.quietAfter] <;> rfl
  · refine ⟨?_, ?_, ?_⟩
    · simp only [exec, execFrameStart, BankLine.startFrame, hw]
    · exact congrArg Host.Outcome.next (if_neg (by simp [hw]))
    · exact congrArg Host.Outcome.next (if_neg (by simp [hw]))
  · have hbad : exec .malformedFrame s = .next (s.abandonFrame 0) :=
      congrArg Host.Outcome.next (if_pos ⟨hw, hs⟩)
    have hquiet (h : 12 < s.line.quiet + elapsed) :
        exec (.frameAbandoned elapsed) s = .next (s.abandonFrame (s.line.quiet + elapsed)) :=
      congrArg Host.Outcome.next (if_pos ⟨hw, hs, h⟩)
    refine ⟨fun hr => ?_, fun hr => ?_, fun hr h => ?_, fun hr h => ?_, fun h => ?_⟩
    · rw [hbad]; exact congrArg Host.Outcome.next (if_pos hr)
    · rw [hbad]; exact congrArg Host.Outcome.next (if_neg (by simp [hr]))
    · rw [hquiet h]; exact congrArg Host.Outcome.next (if_pos hr)
    · rw [hquiet h]; exact congrArg Host.Outcome.next (if_neg (by simp [hr]))
    · refine congrArg Host.Outcome.next (if_neg ?_)
      rintro ⟨_, _, hq⟩
      exact absurd hq (Nat.not_lt.mpr h)

end Sys2Proof.Proofs
end


section
/-! PROOF. The frame of the bank line: its check register, its bytes, and what a receiver reads (O18). -/

namespace Sys2Proof.Machine

/-! ### The check register (R86) -/

theorem byte_shift_toNat (reg : Byte) : (reg <<< 1).toNat = (2 * reg.toNat) % 256 := by
  rw [BitVec.toNat_shiftLeft, Nat.shiftLeft_eq]
  omega

theorem byte_msb (reg : Byte) : reg.msb = decide (128 ≤ reg.toNat) := BitVec.msb_eq_decide reg

theorem crcBit_toNat (reg : Byte) (d : Bool) :
    (crcBit reg d).toNat = (if (decide (128 ≤ reg.toNat)) = d then (2 * reg.toNat) % 256
      else Nat.xor ((2 * reg.toNat) % 256) 7) := by
  simp only [crcBit, beq_iff_eq, byte_msb]
  split
  · exact byte_shift_toNat reg
  · rw [BitVec.toNat_xor, byte_shift_toNat]
    rfl

theorem crcOf_append (l : List Byte) (b : Byte) : crcOf (l ++ [b]) = crcByte (crcOf l) b := by
  rw [crcOf, List.foldl_append]
  rfl

/-! ### The fields of a byte (R85) -/

theorem highNibble_toNat (b : Byte) : (b.extractLsb' 4 4).toNat = b.toNat / 16 := by
  rw [BitVec.extractLsb'_toNat, Nat.shiftRight_eq_div_pow]
  have := b.isLt
  omega

theorem lowNibble_toNat (b : Byte) : (b.extractLsb' 0 4).toNat = b.toNat % 16 := by
  rw [BitVec.extractLsb'_toNat, Nat.shiftRight_zero]

theorem wordOf_toNat (hi lo : Byte) : (wordOf hi lo).toNat = 256 * hi.toNat + lo.toNat := by
  have := lo.isLt
  rw [wordOf, BitVec.toNat_append, ← Nat.shiftLeft_add_eq_or_of_lt this, Nat.shiftLeft_eq]
  omega

theorem wordOf_bytes (w : Word) : wordOf (hiByte w) (loByte w) = w := by
  refine BitVec.eq_of_toNat_eq ?_
  rw [wordOf_toNat, hiByte_eq, loByte_eq]
  have := w.isLt
  simp only [BitVec.toNat_ofNat]
  omega

/-- The station of a number, by its number. -/
theorem stationOf_eq_some {n : Nat} {k : Station} : stationOf? n = some k ↔ stationNum k = n := by
  refine ⟨fun h => ?_, fun h => h ▸ stationOf_stationNum k⟩
  simp only [stationOf?] at h
  split at h
  · obtain rfl := Option.some.inj h
    simp only [stationNum]
    omega
  · cases h

theorem stationOf_eq_none {n : Nat} : stationOf? n = none ↔ n = 0 ∨ 9 ≤ n := by
  refine ⟨fun h => ?_, stationOf_none⟩
  simp only [stationOf?, dite_eq_right_iff, reduceCtorEq, imp_false] at h
  omega

theorem kindOf_code (k : Kind) : kindOf? k.code = some k := by cases k <;> rfl

/-- The kind of a code, by its code (R87). -/
theorem kindOf_eq_some {n : Nat} {k : Kind} : kindOf? n = some k ↔ k.code = n := by
  refine ⟨fun h => ?_, fun h => h ▸ kindOf_code k⟩
  revert h
  fun_cases kindOf? n <;> simp only [Option.some.injEq, reduceCtorEq, false_implies]
  all_goals
    rintro rfl
    rfl

theorem Kind.code_le (k : Kind) : 1 ≤ k.code ∧ k.code ≤ 6 := by cases k <;> decide

theorem kindOf_eq_none {n : Nat} : kindOf? n = none ↔ n = 0 ∨ 7 ≤ n := by
  refine ⟨fun h => ?_, fun h => ?_⟩
  · by_contra hn
    have hlow : 1 ≤ n := by omega
    have hhigh : n ≤ 6 := by omega
    interval_cases n <;> simp [kindOf?] at h
  · refine Option.eq_none_iff_forall_ne_some.mpr fun k hk => ?_
    have hcode := kindOf_eq_some.mp hk
    have hle := k.code_le
    omega

/-! ### The receive checks (R89) -/

theorem readFrame_eq_some {f : FrameBytes} {x : RxFrame} : readFrame? f = some x ↔
    frameCrc f = f.b7 ∧ ∃ (s : Station) (k : Kind), stationOf? (f.b0.extractLsb' 4 4).toNat = some s
      ∧ kindOf? (f.b0.extractLsb' 0 4).toNat = some k
      ∧ x = ⟨s, k, wordOf f.b1 f.b2, wordOf f.b3 f.b4, f.b5, f.b6⟩ := by
  unfold readFrame?
  split
  · next hc =>
    split
    · next s k hs hk =>
      simp only [hc, hs, hk, Option.some.injEq, true_and, exists_eq_left', exists_and_left]
      exact eq_comm
    · next hnone =>
      refine ⟨nofun, ?_⟩
      rintro ⟨_, s, k, hs, hk, _⟩
      exact (hnone s k hs hk).elim
  · next hc => simp [hc]

theorem readFrame_eq_none {f : FrameBytes} : readFrame? f = none ↔
    frameCrc f ≠ f.b7 ∨ stationOf? (f.b0.extractLsb' 4 4).toNat = none
      ∨ kindOf? (f.b0.extractLsb' 0 4).toNat = none := by
  unfold readFrame?
  split
  · next hc =>
    split
    · next s k hs hk => simp only [hc, hs, hk, ne_eq, not_true_eq_false, reduceCtorEq, or_self]
    · next hnone =>
      refine ⟨fun _ => .inr ?_, fun _ => rfl⟩
      cases hs : stationOf? (f.b0.extractLsb' 4 4).toNat with
      | none => exact .inl rfl
      | some s =>
        cases hk : kindOf? (f.b0.extractLsb' 0 4).toNat with
        | none => exact .inr rfl
        | some k => exact (hnone s k hs hk).elim
  · next hc => simp [hc]

/-! ### A loaded frame (R84, R95) -/

/-- The sender and kind of a loaded frame stand in its byte 0. -/
theorem loadFrame_b0 (k : Station) (stamp : Word) (f : TxFrame) :
    (loadFrame (stationNum k) stamp f).b0.toNat = 16 * stationNum k + f.kind.code := by
  have hk := stationNum_le k
  have hc := f.kind.code_le
  refine (BitVec.toNat_ofNat _ _).trans (Nat.mod_eq_of_lt ?_)
  omega

/-- A loaded frame is read as it was loaded. -/
theorem readFrame_loadFrame (k : Station) (stamp : Word) (f : TxFrame) :
    readFrame? (loadFrame (stationNum k) stamp f) = some ⟨k, f.kind, stamp, f.jar, f.payA, f.payB⟩ := by
  have hb0 := loadFrame_b0 k stamp f
  have hc := f.kind.code_le
  refine readFrame_eq_some.mpr ⟨rfl, k, f.kind, ?_, ?_, ?_⟩
  · rw [highNibble_toNat, hb0, stationOf_eq_some]
    omega
  · rw [lowNibble_toNat, hb0, kindOf_eq_some]
    omega
  · simp only [loadFrame, wordOf_bytes]

end Sys2Proof.Machine

namespace Sys2Proof.Proofs
open Sys2Proof.Machine

/-- Settles O18: the check register bit by bit, then the receive checks and the load, each by the fields of
byte 0. -/
theorem frameRoundTrip : Obligations.FrameRoundTrip := by
  unfold Obligations.FrameRoundTrip
  intro code
  have hcode (k : Kind) : code k = k.code := by cases k <;> rfl
  refine ⟨fun reg b d => ⟨crcBit_toNat reg d, rfl, rfl⟩, crcOf_append, fun f => ⟨rfl, ?_, fun x hx => ?_⟩,
    fun k stamp f => ?_⟩
  · rw [readFrame_eq_none, stationOf_eq_none, kindOf_eq_none, highNibble_toNat, lowNibble_toNat, or_assoc]
  · obtain ⟨_, s, k, hs, hk, rfl⟩ := readFrame_eq_some.mp hx
    rw [highNibble_toNat, stationOf_eq_some] at hs
    rw [lowNibble_toNat, kindOf_eq_some] at hk
    exact ⟨hs, (hcode k).trans hk, wordOf_toNat f.b1 f.b2, wordOf_toNat f.b3 f.b4, rfl, rfl⟩
  · refine ⟨readFrame_loadFrame k stamp f, ?_, ?_, ?_, ?_, ?_, rfl, rfl, rfl⟩
    · rw [hcode]
      exact loadFrame_b0 k stamp f
    · exact (congrArg BitVec.toNat (hiByte_eq stamp)).trans (by have := stamp.isLt; simp only [BitVec.toNat_ofNat]; omega)
    · exact (congrArg BitVec.toNat (loByte_eq stamp)).trans (BitVec.toNat_ofNat _ _)
    · exact (congrArg BitVec.toNat (hiByte_eq f.jar)).trans (by have := f.jar.isLt; simp only [BitVec.toNat_ofNat]; omega)
    · exact (congrArg BitVec.toNat (loByte_eq f.jar)).trans (BitVec.toNat_ofNat _ _)

end Sys2Proof.Proofs
end


section
/-! PROOF. The gate queue, the stage plan, START, the run-stop, and the head's inputs (O13, O34 to O37). -/

namespace Sys2Proof.Machine

variable {s : State}

/-! ### Insertion into the gate queue (R157, R158) -/

theorem State.gateInsert_held {p : Word} (v : Verdict) (h : ∃ e ∈ s.gate.queue, e.pitch = p) :
    s.gateInsert p v = s :=
  if_pos (List.any_eq_true.mpr (by simpa only [beq_iff_eq] using h))

variable {p : Word} (v : Verdict) (hnew : ∀ e ∈ s.gate.queue, e.pitch ≠ p)
include hnew

theorem State.gate_lacks : ¬ s.gate.queue.any (fun x => x.pitch == p) = true := by
  simpa only [List.any_eq_true, beq_iff_eq, not_exists, not_and] using hnew

theorem State.gateInsert_room (h : s.gate.queue.length < 32) :
    s.gateInsert p v
      = { s with gate := { s.gate with queue := gatePlace s.cfg s.clk.n ⟨p, v⟩ s.gate.queue } } :=
  (if_neg (State.gate_lacks hnew)).trans (if_pos h)

theorem State.gateInsert_full (h : s.gate.queue.length = 32) :
    s.gateInsert p v
      = { s with gate := { s.gate with
          queue := (gatePlace s.cfg s.clk.n ⟨p, v⟩ s.gate.queue).tail, flood := true } }.count ctrFloods :=
  (if_neg (State.gate_lacks hnew)).trans (if_neg (Nat.not_lt.mpr h.ge))

end Sys2Proof.Machine

namespace Sys2Proof.Machine

variable {s : State}

/-! ### Withdrawal (R66, R172) -/

/-- A withdrawal written out: the own claims given back, WITHDRAWN, and the WITHDRAW behind what is left. -/
theorem State.withdraw_eq (why : FaultInput) :
    s.withdraw why = { s with
      ctl := { s.ctl with mode := .withdrawn, withdrawReason := some why }
      track := claimsReopened s.track
      claims := { s.claims with openClaims := 0 }
      line := s.line.withdrawFrames (fun f => f.kind == Kind.claim) }.enqueue (withdrawFrame why) := rfl

/-! ### The give-up of a cycle (R122) -/

/-- The record in the chuck is given back and announced (R24, R57). -/
theorem State.giveBack_holds {pre post : List Jar} {j : Jar} (h : s.holds pre j post) :
    s.giveBack j = { s with track := pre ++ j.givenBack :: post }.enqueue ⟨.release, j.pitch, 0, 0⟩ :=
  congrArg (State.enqueue (releaseFrame j.pitch)) (State.putJar_holds s j.givenBack h rfl)

variable {j : Jar} {m : Measurements}

/-- With the chuck in ENGAGE to HOLD the cycle ends, and the drive with it (R122). -/
theorem State.giveUpCycle_working (hc : s.head.chuck ∈ [Chuck.engage, .flush, .seat, .drive, .hold])
    (hj : s.chuckJar? = some (j, m)) :
    s.giveUpCycle = { (s.giveBack j).count ctrAborted with
      head := { s.head with phase := .idle, chuck := .lift, cyclePitch := none, valveLeft := 0 } } := by
  have hwork : s.giveUpCycle = s.giveUpWorking := by
    simp only [List.mem_cons, List.not_mem_nil, or_false] at hc
    rcases hc with h | h | h | h | h <;> simp only [State.giveUpCycle, h]
  rw [hwork]
  simp only [State.giveUpWorking, hj, State.earlyLift, State.count_head, State.giveBack_head]

theorem State.giveUpCycle_lift (hc : s.head.chuck = .lift) (hj : s.chuckJar? = some (j, m)) :
    s.giveUpCycle = { (s.giveBack j).count ctrAborted with
      head := { s.head with chuck := .lift, cyclePitch := none, valveLeft := 0 } } := by
  simp only [State.giveUpCycle, hc, hj, State.earlyLift, State.count_head, State.giveBack_head]

/-- A chuck with no record in it is not moved (R122). -/
theorem State.giveUpCycle_empty (hc : s.head.chuck = .ready ∨ s.head.chuck = .returning
    ∨ (s.head.chuck = .lift ∧ s.head.cyclePitch = none)) : s.giveUpCycle = s := by
  rcases hc with h | h | ⟨h, hp⟩
  · simp only [State.giveUpCycle, h]
  · simp only [State.giveUpCycle, h]
  · simp only [State.giveUpCycle, h, State.chuckJar_none s hp]

/-! ### The abort of a cycle (R124) -/

theorem State.abortCycle_counters : s.abortCycle.counters
    = (if s.head.chuck = .ready ∨ s.head.chuck = .returning then s.counters
      else (s.count ctrAborted).counters) := by
  unfold State.abortCycle
  cases s.head.chuck <;> rfl

/-- Outside RUN every output of the head is safe (R107). -/
theorem State.levels_safe (h : s.ctl.mode ≠ .run) : s.levels = (false, false, false) := by
  simp only [State.levels, State.chuckDn, State.steamV, State.spindle, h, decide_false, Bool.false_and]

end Sys2Proof.Machine

namespace Sys2Proof.Proofs
open Sys2Proof.Machine

/-- Settles O13, by the place that the queue has for the entry. -/
theorem gateInsertion : Obligations.GateInsertion := by
  intro s p v hs
  refine ⟨State.gateInsert_held v, fun hnew hroom => ?_, fun hnew hfull => ?_⟩
  · exact ⟨_, State.gateInsert_room v hnew hroom, gatePlace_perm .., gatePlace_sorted s.cfg s.clk.n ⟨p, v⟩ _ hs hnew⟩
  · have hperm := gatePlace_perm s.cfg s.clk.n ⟨p, v⟩ s.gate.queue
    have hsorted := gatePlace_sorted s.cfg s.clk.n ⟨p, v⟩ _ hs hnew
    have hinsert := State.gateInsert_full v hnew hfull
    have hlen := hperm.length_eq
    generalize gatePlace s.cfg s.clk.n ⟨p, v⟩ s.gate.queue = placed at hperm hsorted hinsert hlen
    cases placed with
    | nil => cases hlen
    | cons dropped q =>
      refine ⟨dropped, q, hinsert, hperm, ?_, hsorted⟩
      simp only [List.length_cons] at hlen
      omega

/-- Settles O34: the excess over W is taken from the extras in the order of R104, so that each line is a
statement about truncated differences. -/
theorem stagePlanTrimmed : Obligations.StagePlanTrimmed := by
  intro i hbase
  dsimp only [planOf]
  refine ⟨?_, ?_, ?_, ?_, ?_, ?_, ?_, ?_, ?_, ?_, ?_, ?_, ?_, ?_⟩ <;> omega

/-- Settles O36: the run-stop is a purge, a prune and a recorded cause. -/
theorem runStopPurges : Obligations.RunStopPurges := by
  intro s
  refine ⟨fun hr => ⟨_, congrArg Host.Outcome.next (if_pos hr), ?_⟩,
    fun hr => congrArg Host.Outcome.next (if_neg (by simp [hr]))⟩
  rw [State.runStop_frame]
  refine ⟨rfl, rfl, rfl, rfl, rfl, rfl, rfl, rfl, rfl, rfl, rfl, rfl, rfl, ?_, rfl, rfl, rfl, rfl, rfl⟩
  exact State.abortCycle_counters

/-- Settles O37, by the place of the chuck: the cycle is given up where a record is in it, and then the station
withdraws. -/
theorem headInputs : Obligations.HeadInputs := by
  refine ⟨fun s input level => ?_, fun s level => ⟨_, rfl, rfl, ?_⟩⟩
  · intro raised reason withdrawn
    have hraised : raised = { s with pins := s.pins.setFault input level } := by cases input <;> rfl
    have hframe : withdrawFrame input = ⟨.withdraw, 0, reason, 0⟩ := by cases input <;> rfl
    have hwithdraw (u : State) (head : Head) (hctl : u.ctl = s.ctl) (hclaims : u.claims = s.claims) :
        { u with head := head }.withdraw input = withdrawn u head := by
      rw [State.withdraw_eq, hframe]
      simp only [withdrawn, hctl, hclaims]
    have hexec (hl : level = true) (hm : s.ctl.mode = .run) :
        exec (.headFaultJam input level) s = .next (raised.giveUpCycle.withdraw input) := by
      rw [hraised]
      exact congrArg Host.Outcome.next (if_pos ⟨hl, hm⟩)
    refine ⟨fun pre post j m hl hm hh hp hj => ?_, fun hl hm hc => ?_, fun h => ?_⟩
    · intro freed
      have hback : (raised.giveBack j).count ctrAborted = freed := by
        rw [State.giveBack_holds (s := raised) hh]
      have hctl : freed.ctl = s.ctl := by simp only [freed, raised, State.count_ctl, State.enqueue_ctl]
      have hclaims : freed.claims = s.claims := by
        simp only [freed, raised, State.count_claims, State.enqueue_claims]
      have hchuck : raised.chuckJar? = some (j, m) := State.chuckJar_holds raised hh hp hj
      refine ⟨fun hc => ?_, fun hc => ?_⟩
      · intro t
        have hmode : t.ctl.mode = .withdrawn := by simp only [t, withdrawn, State.enqueue_ctl]
        refine ⟨?_, State.levels_safe (by rw [hmode]; decide), by simp only [State.faultLamp, hmode, decide_true, Bool.true_or]⟩
        rw [hexec hl hm, State.giveUpCycle_working (s := raised) hc hchuck, hback]
        exact congrArg Host.Outcome.next (hwithdraw freed _ hctl hclaims)
      · rw [hexec hl hm, State.giveUpCycle_lift (s := raised) hc hchuck, hback]
        exact congrArg Host.Outcome.next ((hwithdraw freed _ hctl hclaims).trans (by rw [← hc]))
    · rw [hexec hl hm, State.giveUpCycle_empty (s := raised) hc]
      exact congrArg Host.Outcome.next (hwithdraw raised s.head rfl rfl)
    · rw [hraised]
      refine congrArg Host.Outcome.next (if_neg ?_)
      rintro ⟨hl, hm⟩
      exact h.elim (fun h => by simp [h] at hl) fun h => h hm
  · simp only [State.starved, Bool.and_eq_true, decide_eq_true_eq, and_comm]

end Sys2Proof.Proofs
end


section
/-! PROOF. The START attempt (O35). -/

namespace Sys2Proof.Machine

variable {s : State}

/-! ### The HELLO's fields (R87) -/

theorem helloFrame_jar (i : Image) : (helloFrame i).jar.toNat
    = 256 * i[4].toNat + (i[4].toNat + i[5].toNat + i[6].toNat) % 256 := by
  refine (wordOf_toNat _ _).trans ?_
  rw [byteOf, byteOf, BitVec.toNat_ofNat, BitVec.toNat_ofNat]
  exact congrArg (256 * · + _) (Nat.mod_eq_of_lt i[4].isLt)

theorem helloFrame_payA (i : Image) : (helloFrame i).payA.toNat = i[2].toNat % 64 := by
  refine (BitVec.toNat_and _ _).trans ?_
  exact Nat.and_two_pow_sub_one_eq_mod _ 6

theorem helloFrame_payB (i : Image) :
    (helloFrame i).payB.toNat = i[17].toNat % 16 + 128 * (i[1].toNat % 2) := by
  have hgate : i.gateRole = decide (i[1].toNat % 2 = 1) := by
    rw [Image.gateRole, ← BitVec.testBit_toNat, Nat.testBit_zero]
  have hlow : (byteOf i.steamLimit &&& 0x0F#8).toNat = i[17].toNat % 16 := by
    rw [BitVec.toNat_and, byteOf, BitVec.toNat_ofNat]
    refine (Nat.and_two_pow_sub_one_eq_mod _ 4).trans ?_
    exact congrArg (· % 16) (Nat.mod_eq_of_lt i[17].isLt)
  have hhigh : (flagBit 7 i.gateRole).toNat = 2 ^ 7 * (i[1].toNat % 2) := by
    rw [hgate]
    rcases Nat.mod_two_eq_zero_or_one i[1].toNat with h | h <;> rw [h] <;> rfl
  refine (BitVec.toNat_or _ _).trans ?_
  rw [hlow, hhigh, Nat.or_comm, ← Nat.two_pow_add_eq_or_of_lt (by omega)]
  omega

/-! ### The head and the busy count at START (R43, R125) -/

theorem headAtStart_eq (i : Image) (cap : Bool) : headAtStart i cap = { Head.idle (planOf i) with
    chuck := if cap = false ∧ i.returnPitches ≠ 0 then .returning else .ready
    returnLeft := if cap = false ∧ i.returnPitches ≠ 0 then i.returnPitches else 0 } := by
  unfold headAtStart
  by_cases h : i.returnPitches = 0 <;> cases cap <;> simp [h, Head.idle]

theorem busyAtStart_eq (i : Image) (cap : Bool) :
    busyAtStart i cap = if cap = false ∧ i.returnPitches ≠ 0 then i.returnPitches else 0 := by
  unfold busyAtStart
  by_cases h : i.returnPitches = 0 <;> cases cap <;> simp [h]

/-! ### The attempt (R169, R170) -/

theorem State.startAttempt_headFault (cap : Bool) (hm : s.ctl.mode = .standby) (hf : s.pins.headFault = true) :
    s.startAttempt cap = s.enterFault .headAtStart := by
  simp only [State.startAttempt, hm, hf, if_true]

theorem State.startAttempt_other (cap : Bool) (hm : s.ctl.mode ≠ .standby) : s.startAttempt cap = s := by
  unfold State.startAttempt
  split
  · next h => exact absurd h hm
  all_goals rfl

variable (cap : Bool) (hm : s.ctl.mode = .standby) (hf : s.pins.headFault = false)
include hm hf

theorem State.startAttempt_refused (hc : startCheck s.ctl.image ≠ 0) :
    s.startAttempt cap = { s with ctl := { s.ctl with startRefused := startCheck s.ctl.image } } := by
  simp only [State.startAttempt, hm, hf, Bool.false_eq_true, if_false, hc]

theorem State.startAttempt_starts (hc : startCheck s.ctl.image = 0) :
    s.startAttempt cap = if s.pins.jam = true then (s.start cap).withdraw .jam else s.start cap := by
  simp only [State.startAttempt, hm, hf, Bool.false_eq_true, if_false, hc, if_true]

end Sys2Proof.Machine

namespace Sys2Proof.Machine

/-- A removal that names no waiting frame and finds none on the line that is still the head leaves the queue. -/
theorem BankLine.withdrawFrames_queue {l : BankLine} (gone : TxFrame → Bool) (hh : l.headOnLine = false)
    (hq : ∀ f ∈ l.queue, gone f = false) : (l.withdrawFrames gone).queue = l.queue := by
  rw [BankLine.withdrawFrames, BankLine.doomSending_queue]
  unfold BankLine.removeWaiting
  split
  · next h => rw [h]
  · next f rest h =>
    rw [hh, if_neg Bool.false_ne_true, ← h]
    exact List.filter_eq_self.mpr fun x hx => by rw [hq x hx]; rfl

/-- START leaves no frame on the line that is the head of the queue (R102). -/
theorem State.start_headOnLine (s : State) (cap : Bool) : (s.start cap).line.headOnLine = false := by
  rw [State.start_frame]
  unfold BankLine.headOnLine BankLine.atStart
  cases s.line.sending <;> rfl

/-- The withdrawal of a START that finds JAM: the WITHDRAW stands behind the HELLO (R172). -/
theorem State.start_withdraw_queue (s : State) (cap : Bool) :
    ((s.start cap).withdraw .jam).line.queue = [helloFrame s.ctl.image, ⟨.withdraw, 0, 2, 0⟩] := by
  have hq : (s.start cap).line.queue = [helloFrame s.ctl.image] := by rw [State.start_frame]
  have hkept := BankLine.withdrawFrames_queue (fun f => f.kind == Kind.claim) (s.start_headOnLine cap)
    (fun f hf => by
      rw [hq, List.mem_singleton] at hf
      rw [hf]
      rfl)
  rw [State.withdraw_eq, State.enqueue_room _ _ (by dsimp only; rw [hkept, hq]; exact (by decide : 1 < 8))]
  dsimp only
  rw [hkept, hq]
  rfl

end Sys2Proof.Machine

namespace Sys2Proof.Proofs
open Sys2Proof.Machine

/-- Settles O35, by the answers of a START attempt: FAULT, a refusal, a start, a start that withdraws, or none. -/
theorem startAttempt : Obligations.StartAttempt := by
  refine ⟨fun i => ⟨rfl, helloFrame_jar i, helloFrame_payA i, helloFrame_payB i⟩, fun cap s => ?_,
    fun cap s hm hf hj hc => ?_⟩
  · refine ⟨fun hm hf => ?_, fun hm hf hc => ?_, fun hm hf hj hc => ?_, fun hm => ?_⟩
    · refine ⟨_, congrArg Host.Outcome.next (State.startAttempt_headFault cap (by exact hm) (by exact hf)), ?_⟩
      rw [State.enterFault_frame]
      exact ⟨rfl, rfl, rfl, rfl, rfl, rfl, rfl⟩
    · exact congrArg Host.Outcome.next (State.startAttempt_refused cap (by exact hm) (by exact hf) (by exact hc))
    · refine congrArg Host.Outcome.next ((State.startAttempt_starts cap (by exact hm) (by exact hf) (by exact hc)).trans
        ((if_neg (by simp [hj])).trans ?_))
      rw [State.start_frame, headAtStart_eq, busyAtStart_eq]
      rfl
    · exact congrArg Host.Outcome.next (State.startAttempt_other cap (by exact hm))
  · let up : State := { s with pins := { s.pins with runEn := true } }
    refine ⟨(up.start cap).withdraw .jam, congrArg Host.Outcome.next
      ((State.startAttempt_starts cap (by exact hm) (by exact hf) (by exact hc)).trans (if_pos hj)), ?_⟩
    have hstart := State.start_frame (s := up) cap
    have hctl := State.withdraw_ctl (s := up.start cap) .jam
    refine ⟨by rw [hctl], by rw [hctl], ?_, up.start_withdraw_queue cap, ?_, ?_, ?_⟩
    · rw [hctl, hstart]
    · exact State.withdraw_track_nil (s := up.start cap) .jam (by rw [hstart])
    · rw [State.withdraw_eq, State.enqueue_claims]
    · simp only [State.faultLamp, hctl, decide_true, Bool.true_or]

end Sys2Proof.Proofs
end


section
/-! PROOF. The frames of peers, in step: what each kind does to the peer table and the track (O25 to O32). -/

namespace Sys2Proof.Machine

variable {s : State} {k : Station}

/-! ### The sender, as heard (R70) -/

/-- A sender is LIVE once heard exactly when it was ABSENT or LIVE before (R70 step 4). -/
theorem Peer.heard_isLive (n : Word) (p : Peer) : (p.heard n).isLive = true ↔ p.st = .absent ∨ p.st = .live := by
  rw [Peer.isLive_iff, Peer.heard]
  by_cases h : p.st = .absent <;> simp [h]

/-- A peer not LIVE put aside reopens the records held for it in the same action (R62). -/
theorem State.setAside_eq (k : Station) (p : Peer) (s : State) :
    s.setAside k p = { s with track := holdsReopened k s.track }.putPeer k p := rfl

/-! ### The six rows -/

section Rows

variable (h : s.hears k) (hm : ¬ (s.peer k).setApart)
include h hm

theorem exec_claimTaken_heard (jar : Word) (a b : Byte) : exec (.claimTaken (senderCode k) jar a b) s
    = .next ((s.putPeer k ((s.peer k).heard s.clk.n)).takeClaim k jar a) := by
  rw [← State.noteInStep_heard s k .claim (by decide) (by decide)]
  exact congrArg Host.Outcome.next (State.takeKind_heard s k .claim jar a b h (.inl hm))

theorem exec_releaseTaken_heard (jar : Word) : exec (.releaseTaken (senderCode k) jar) s
    = .next ((s.putPeer k ((s.peer k).heard s.clk.n)).takeRelease k jar) := by
  rw [← State.noteInStep_heard s k .release (by decide) (by decide)]
  exact congrArg Host.Outcome.next (State.takeKind_heard s k .release jar 0 0 h (.inl hm))

theorem exec_doneTaken_heard (jar : Word) (a b : Byte) : exec (.doneTaken (senderCode k) jar a b) s
    = .next (((s.putPeer k ((s.peer k).heard s.clk.n)).refresh k).takeDone k jar a) := by
  rw [← State.noteInStep_heard s k .done (by decide) (by decide)]
  exact congrArg Host.Outcome.next (State.takeKind_heard s k .done jar a b h (.inl hm))

theorem exec_steamTaken_heard (jar : Word) (a b : Byte) : exec (.steamTaken (senderCode k) jar a b) s
    = .next ((s.putPeer k ((s.peer k).heard s.clk.n)).takeSteam k jar a b) := by
  rw [← State.noteInStep_heard s k .steam (by decide) (by decide)]
  exact congrArg Host.Outcome.next (State.takeKind_heard s k .steam jar a b h (.inl hm))

theorem exec_withdrawTaken_heard (a : Byte) : exec (.withdrawTaken (senderCode k) a) s
    = .next ((s.putPeer k { s.peer k with skew := 0, lastHeard := some s.clk.n }).takeWithdraw k) := by
  rw [← State.noteInStep_hello s k .withdraw (.inr rfl)]
  exact congrArg Host.Outcome.next (State.takeKind_heard s k .withdraw 0 a 0 h (.inl hm))

end Rows

theorem exec_helloTaken_heard (h : s.hears k) (jar : Word) (a b : Byte) :
    exec (.helloTaken (senderCode k) jar a b) s
      = .next ((s.putPeer k { s.peer k with skew := 0, lastHeard := some s.clk.n }).takeHello k jar a b) := by
  rw [← State.noteInStep_hello s k .hello (.inl rfl)]
  exact congrArg Host.Outcome.next (State.takeKind_heard s k .hello jar a b h (.inr rfl))

/-! ### CLAIM (R52 to R58) -/

theorem State.takeClaim_unknown {jar : Word} {a : Byte} (h : ¬ (s.peer k).isLive = true ∨ s.lacks jar) :
    s.takeClaim k jar a = s.count ctrUnknownJarClaims := by
  unfold State.takeClaim
  rcases h with h | h
  · rw [if_neg h]
  · rw [State.findJar_none s h]
    exact ite_self _

theorem State.takeClaim_holds {pre post : List Jar} {j : Jar} (a : Byte) (hl : (s.peer k).isLive = true)
    (hh : s.holds pre j post) : s.takeClaim k j.pitch a = s.claimOnRecord j k a := by
  simp only [State.takeClaim, hl, if_true, State.findJar_holds s hh]

theorem promisePitch_eq (p : Word) (a : Byte) : promisePitch p a = p + BitVec.ofNat 16 a.toNat :=
  congrArg (p + ·) (BitVec.ofNat_toNat 16 a).symm

/-- The record held for a claimant, in its place in the track (R53, R58). -/
theorem State.putJar_holdFor {pre post : List Jar} {j : Jar} (a : Byte) (hh : s.holds pre j post) :
    s.putJar (j.holdFor s.clk.n k a) = { s with track := pre ++ { j with
      st := .heldPeer k (j.pitch + BitVec.ofNat 16 a.toNat) (decide ((s.clk.n - j.pitch).toNat < a.toNat)) }
      :: post } := by
  refine (State.putJar_holds s (j.holdFor s.clk.n k a) hh rfl).trans ?_
  rw [Jar.holdFor, promisePitch_eq]
  rfl

/-! ### RELEASE (R56) -/

theorem State.takeRelease_lacks {jar : Word} (h : s.lacks jar) : s.takeRelease k jar = s := by
  simp only [State.takeRelease, State.findJar_none s h]

theorem State.takeRelease_holds {pre post : List Jar} {j : Jar} (hh : s.holds pre j post) :
    s.takeRelease k j.pitch = if (s.peer k).isLive = true ∧ j.heldBy k = true then
      { s with track := pre ++ j.reopen :: post } else s := by
  simp only [State.takeRelease, State.findJar_holds s hh, State.putJar_holds s j.reopen hh rfl, Bool.and_eq_true]

/-! ### DONE (R149, R150) -/

theorem verdictOfDone_code {v : Verdict} (hv : v ≠ .uncapped) : verdictOfDone? v.code = some v := by
  cases v with
  | uncapped => exact absurd rfl hv
  | _ => rfl

theorem verdictOfDone_none {n : Nat} (h : 8 ≤ n) : verdictOfDone? n = none := by
  fun_cases verdictOfDone? n with
  | case9 => rfl
  | _ => omega

theorem State.takeDone_ignored {jar : Word} {a : Byte} (h : 8 ≤ a.toNat % 16) : s.takeDone k jar a = s := by
  simp only [State.takeDone, lowNibble_toNat, verdictOfDone_none h]

section Done

variable {v : Verdict} {a : Byte} (hv : a.toNat % 16 = v.code) (hn : v ≠ .uncapped)
include hv hn

theorem State.takeDone_lacks {jar : Word} (h : s.lacks jar) : s.takeDone k jar a = s.count ctrLateDone := by
  simp only [State.takeDone, lowNibble_toNat, hv, verdictOfDone_code hn, State.findJar_none s h]

theorem State.takeDone_holds {pre post : List Jar} {j : Jar} (hh : s.holds pre j post) :
    s.takeDone k j.pitch a = s.doneOnRecord j k v a := by
  simp only [State.takeDone, lowNibble_toNat, hv, verdictOfDone_code hn, State.findJar_holds s hh]

end Done

/-- A verdict handed to the gate joins its queue on the gate-role station, where it rejects (R149). -/
theorem State.handToGate_eq (p : Word) (v : Verdict) (disp : Disposition) (s : State) :
    s.handToGate p v disp = if s.cfg.gateRole = true ∧ disp = .reject then s.gateInsert p v else s := by
  cases disp
  · exact (if_neg fun h => nomatch h.2).symm
  · simp only [State.handToGate, and_true]

/-- A peer's verdict on a record, in its place in the track (R149). -/
theorem State.setPeerVerdict_holds {pre post : List Jar} {j : Jar} (v : Verdict) (disp : Disposition) (a : Byte)
    (hh : s.holds pre j post) :
    let judged : State := { s with track := pre ++ { j with
      st := .done v (.station k) disp none, nearFlag := a.getLsbD 5, overFlag := a.getLsbD 6 } :: post }
    s.setPeerVerdict j k v disp a
      = if s.cfg.gateRole = true ∧ disp = .reject then judged.gateInsert j.pitch v else judged := by
  intro judged
  rw [State.setPeerVerdict, State.handToGate_eq, State.putJar_holds s _ hh (by rfl)]

theorem State.takeDone_peers (k : Station) (jar : Word) (a : Byte) : (s.takeDone k jar a).peers = s.peers := by
  unfold State.takeDone
  split
  · rfl
  · split
    · rfl
    · unfold State.doneOnRecord
      split
      · rw [State.setPeerVerdict_peers]
      · rw [State.setPeerVerdict_peers]
      · rw [State.dropClaim_peers, State.setPeerVerdict_peers]
      · rfl
      · rfl
      · rfl
      · dsimp only
        split <;> rfl

theorem State.peer_takeDone (k : Station) (jar : Word) (a : Byte) (p : Station) :
    (s.takeDone k jar a).peer p = s.peer p :=
  congrArg (fun x => x.recs.get p) (State.takeDone_peers k jar a)

/-! ### Refresh (R78, R79) -/

theorem State.refresh_off (h : s.cfg.refresh = false) : s.refresh k = s :=
  if_neg (by simp [h])

theorem State.peer_refresh (h : s.cfg.refresh = true) (k p : Station) :
    (s.refresh k).peer p = refreshPeer s.cfg.own k p s.peers.recs := by
  simp only [State.refresh, h, if_true, State.peer]
  exact Vector.getElem_ofFn p.isLt

/-- The refresh test by the members that it asks for (R79). -/
theorem refreshPasses_iff (own p : Station) (recs : Vector Peer 8) (r : BitVec 8) :
    refreshPasses own p recs r = true ↔ r.getLsbD p.val = true ∧ r.getLsbD own.val = true
      ∧ ∀ q : Station, q ≠ p → (recs.get q).st = .live → r.getLsbD q.val = true := by
  simp only [refreshPasses, Bool.and_eq_true, List.all_eq_true, List.mem_finRange, forall_const,
    Bool.or_eq_true, beq_iff_eq, Bool.not_eq_true', Peer.isLive, and_assoc, or_assoc]
  refine and_congr_right fun _ => and_congr_right fun _ => forall_congr' fun q => ?_
  generalize (recs.get q).st = st
  cases st <;> simp [or_iff_not_imp_left]

theorem grown_own (r : BitVec 8) (k : Station) : (r ||| BitVec.twoPow 8 k.val).getLsbD k.val = true := by
  rw [BitVec.getLsbD_or, BitVec.getLsbD_twoPow]
  simp

end Sys2Proof.Machine
end


section
/-! PROOF. The TAKEN rows (O25 to O32), each from its row as `Heard` writes it out. -/

namespace Sys2Proof.Machine

variable {s : State} {k : Station}

/-! ### Rows that take no frame (R70, R71, R89) -/

/-- What a row of `takeKind` does where it takes no frame. -/
structure State.TakesNone (s : State) (c : BitVec 4) (k : Station) (t : State) : Prop where
  idle : s.inRun = false → t = s
  bad : s.inRun = true → c.toNat = 0 ∨ 9 ≤ c.toNat → t = s.count ctrBadFrames
  own : s.inRun = true → c = senderCode k → s.cfg.number = stationNum k → t = s.enterFault .duplicateId

theorem State.takeKind_own {kind : Kind} {jar : Word} {a b : Byte} (hr : s.inRun = true)
    (ho : s.cfg.number = stationNum k) :
    s.takeKind (senderCode k) kind jar a b = s.enterFault .duplicateId := by
  have hown : s.cfg.isOwn k = true := decide_eq_true ho
  simp only [State.takeKind, senderCode_toNat, stationOf_stationNum, State.takeFrame, hr, hown, if_true]

theorem State.takeKind_none (c : BitVec 4) (k : Station) (kind : Kind) (jar : Word) (a b : Byte) :
    s.TakesNone c k (s.takeKind c kind jar a b) where
  idle := State.takeKind_idle s c kind jar a b
  bad := State.takeKind_bad s c kind jar a b
  own hr hc ho := hc ▸ State.takeKind_own hr ho

/-- A frame of a peer set apart, other than its HELLO, is a bad frame (R71). -/
theorem State.takeKind_setApart {kind : Kind} {jar : Word} {a b : Byte} (h : s.hears k) (hk : kind ≠ .hello)
    (hm : (s.peer k).setApart) : s.takeKind (senderCode k) kind jar a b = s.count ctrBadFrames := by
  have hmis : (s.peer k).isMismatched = true := (Peer.isMismatched_iff _).mpr hm
  have hne : (kind != .hello) = true := bne_iff_ne.mpr hk
  simp only [State.takeKind, senderCode_toNat, stationOf_stationNum, State.takeFrame, h.1, h.2, hmis, hne,
    Bool.and_self, Bool.false_eq_true, if_true, if_false]

/-! ### WITHDRAW (R80) -/

theorem State.takeWithdraw_joined {r : BitVec 8}
    (h : (s.peer k).st = .absent ∨ (s.peer k).st = .live ∨ (s.peer k).st = .parked r) :
    s.takeWithdraw k = s.setAside k { s.peer k with st := .withdrawn } := by
  rcases h with h | h | h <;> simp only [State.takeWithdraw, h]

theorem State.takeWithdraw_gone (h : (s.peer k).st = .withdrawn) : s.takeWithdraw k = s := by
  simp only [State.takeWithdraw, h]

end Sys2Proof.Machine

namespace Sys2Proof.Proofs
open Sys2Proof.Machine

/-- Settles O25: the six rows are one function of their kind, and each check stands before the kind is read. -/
theorem frameNotTaken : Obligations.FrameNotTaken := by
  intro c k jar a b s
  have hsettle {i : Instr} {t : State} (hi : exec i s = .next t) (ht : s.TakesNone c k t) :
      (s.inRun = false → exec i s = .next s)
      ∧ (s.inRun = true → c.toNat = 0 ∨ 9 ≤ c.toNat → exec i s = .next (s.count ctrBadFrames))
      ∧ (s.inRun = true → c = senderCode k → s.cfg.number = stationNum k →
        ∃ t : State, exec i s = .next t ∧ t.ctl.mode = .fault ∧ t.ctl.faultCause = some .duplicateId
          ∧ t.line.queue = [] ∧ t.track = []) := by
    refine ⟨fun hr => by rw [hi, ht.idle hr], fun hr hc => by rw [hi, ht.bad hr hc], fun hr hc ho => ?_⟩
    refine ⟨t, hi, ?_⟩
    rw [ht.own hr hc ho, State.enterFault_frame]
    exact ⟨rfl, rfl, rfl, rfl⟩
  refine ⟨?_, fun i hi h hc hm => ?_⟩
  · simp only [List.forall_mem_cons, List.not_mem_nil, false_imp_iff, implies_true, and_true]
    exact ⟨hsettle rfl (State.takeKind_none c k .hello jar a b), hsettle rfl (State.takeKind_none c k .claim jar a b),
      hsettle rfl (State.takeKind_none c k .release jar 0 0), hsettle rfl (State.takeKind_none c k .done jar a b),
      hsettle rfl (State.takeKind_none c k .steam jar a b), hsettle rfl (State.takeKind_none c k .withdraw 0 a 0)⟩
  · subst hc
    revert i
    simp only [List.forall_mem_cons, List.not_mem_nil, false_imp_iff, implies_true, and_true]
    have hbad (kind : Kind) (hk : kind ≠ .hello) (jar : Word) (a b : Byte) :
        (.next (s.takeKind (senderCode k) kind jar a b) : Host.Outcome State Fault Refusal)
          = .next (s.count ctrBadFrames) :=
      congrArg Host.Outcome.next (State.takeKind_setApart h hk hm)
    exact ⟨hbad .claim (by decide) jar a b, hbad .release (by decide) jar 0 0, hbad .done (by decide) jar a b,
      hbad .steam (by decide) jar a b, hbad .withdraw (by decide) 0 a 0⟩

/-- Settles O27, by the state of the record that the CLAIM names. -/
theorem claimTaken : Obligations.ClaimTaken := by
  intro s k jar a b h hm
  rw [exec_claimTaken_heard h hm jar a b]
  have hown : s.cfg.number ≠ stationNum k := of_decide_eq_false h.2
  have hpeer : (s.putPeer k ((s.peer k).heard s.clk.n)).peer k = (s.peer k).heard s.clk.n :=
    State.peer_putPeer_same ..
  refine ⟨fun hlive => ⟨fun pre post j hh hp => ?_, fun hl => ?_⟩, fun r hst => ?_⟩
  · subst hp
    intro heard held
    have hl : (heard.peer k).isLive = true := by rw [hpeer, Peer.heard_isLive]; exact hlive
    rw [State.takeClaim_holds a hl hh]
    have hheld : heard.putJar (j.holdFor heard.clk.n k a) = held := State.putJar_holdFor (s := heard) a hh
    refine ⟨fun hj => ?_, fun c q ahead hj => ⟨fun hc => ?_, fun hc => ?_⟩, fun hj hn => ?_, fun hj hn => ?_,
      fun hj => ?_⟩
    · simp only [State.claimOnRecord, hj, hheld]
    · simp only [State.claimOnRecord, hj, if_pos hc, hheld]
    · simp only [State.claimOnRecord, hj, if_neg (Nat.not_lt.mpr hc)]
    · simp only [State.claimOnRecord, hj, State.putPeer_cfg, heard, if_pos hn]
      exact congrArg (fun t => Host.Outcome.next (State.count ctrYields (State.dropClaim j.pitch t))) hheld
    · simp only [State.claimOnRecord, hj, State.putPeer_cfg, heard, if_neg (Nat.not_lt.mpr hn.le)]
    · rcases hj with hj | hj | ⟨m, hj⟩
      · unfold State.claimOnRecord
        unfold Jar.isInChuck at hj
        split at hj <;> simp_all
      · unfold State.claimOnRecord
        unfold Jar.isDone at hj
        split at hj <;> simp_all
      · simp only [State.claimOnRecord, hj]
  · exact congrArg Host.Outcome.next (State.takeClaim_unknown (.inr (by exact hl)))
  · refine congrArg Host.Outcome.next (State.takeClaim_unknown (.inl ?_))
    rw [hpeer, Peer.heard_isLive]
    rcases hst with hst | hst <;> simp [hst]

/-- Settles O28, by the claimant of the record that the RELEASE names. -/
theorem releaseTaken : Obligations.ReleaseTaken := by
  intro s k jar
  refine ⟨fun h hm => ?_, fun hr => congrArg Host.Outcome.next (State.takeKind_idle s _ .release jar 0 0 hr)⟩
  intro heard live
  have hexec : exec (.releaseTaken (senderCode k) jar) s = .next (heard.takeRelease k jar) :=
    exec_releaseTaken_heard h hm jar
  rw [hexec]
  have hlive : (heard.peer k).isLive = true ↔ live := by
    rw [State.peer_putPeer_same, Peer.heard_isLive]
  refine ⟨fun pre post j hh hp => ?_, fun hl => congrArg Host.Outcome.next (State.takeRelease_lacks (by exact hl))⟩
  subst hp
  rw [State.takeRelease_holds (s := heard) hh]
  simp only [hlive]
  refine ⟨fun hl hb => congrArg Host.Outcome.next (if_pos ⟨hl, hb⟩), fun hn => congrArg Host.Outcome.next (if_neg ?_)⟩
  rintro ⟨hl, hb⟩
  exact hn.elim (fun hn => hn hl) fun hn => by simp [hn] at hb

/-- Settles O29, by the state of the record that the DONE names. -/
theorem doneTaken : Obligations.DoneTaken := by
  intro s k jar a b h hm
  rw [exec_doneTaken_heard h hm jar a b]
  intro heard disp
  have hcfg : heard.cfg = s.cfg := by simp only [heard, State.refresh_cfg, State.putPeer_cfg]
  have htrack : heard.track = s.track := by simp only [heard, State.refresh_track, State.putPeer_track]
  have hclaims : heard.claims = s.claims := by simp only [heard, State.refresh_claims, State.putPeer_claims]
  have hline : heard.line = s.line := by simp only [heard, State.refresh_line, State.putPeer_line]
  refine ⟨fun v hv hn => ⟨fun pre post j hh hp => ?_, fun hl => ?_⟩, fun hcode => by rw [State.takeDone_ignored hcode]⟩
  · subst hp
    intro judged gated flagged
    have hh' : heard.holds pre j post := by
      rw [State.holds, htrack]
      exact hh
    rw [State.takeDone_holds hv hn hh']
    have hset : heard.setPeerVerdict j k v (doneDisposition a) a = gated := by
      rw [State.setPeerVerdict_holds v _ a hh', hcfg]
      rfl
    have hflag : heard.putJar { j with conflict := true } = flagged := State.putJar_holds heard _ hh' rfl
    refine ⟨fun hj => ?_, fun hj => ?_, fun ⟨m, hj⟩ => ?_, fun v' d' m hj => ?_, fun v' q d' m hj => ⟨fun he => ?_, fun he => ?_⟩⟩
    · rcases hj with hj | ⟨c, q, ahead, hj⟩ <;> simp only [State.doneOnRecord, hj, hset]
    · have hgclaims : gated.claims = s.claims := by
        rw [← hset, State.setPeerVerdict_claims, hclaims]
      have hgline : gated.line = s.line := by
        rw [← hset, State.setPeerVerdict_line, hline]
      simp only [State.doneOnRecord, hj, hset, State.dropClaim, hgclaims, hgline]
      rfl
    · rcases hj with hj | hj <;> simp only [State.doneOnRecord, hj]
    · rw [← hflag]
      simp only [State.doneOnRecord, hj]
    · simp only [State.doneOnRecord, hj]
      exact congrArg Host.Outcome.next (if_pos he)
    · rw [← hflag]
      simp only [State.doneOnRecord, hj]
      exact congrArg Host.Outcome.next (if_neg he)
  · rw [State.takeDone_lacks hv hn]
    rw [State.lacks, htrack]
    exact hl

/-- Settles O30: the DONE itself moves no peer, so the table is that of the collection. -/
theorem refreshReturns : Obligations.RefreshReturns := by
  refine ⟨fun s k jar a b h hoff hm => ?_, fun s k jar a b h hlow hhigh hon hm => ?_⟩
  · refine ⟨_, exec_doneTaken_heard h hm jar a b, fun p => ?_⟩
    rw [State.peer_takeDone, State.refresh_off (by exact hoff)]
    split
    · next hp => rw [hp, State.peer_putPeer_same]
    · next hp => rw [State.peer_putPeer_other _ _ _ _ (Ne.symm hp)]
  · let heard : State := s.putPeer k ((s.peer k).heard s.clk.n)
    refine ⟨(heard.refresh k).takeDone k jar a, exec_doneTaken_heard h hm jar a b, fun p => ?_⟩
    have hpeer (x : Station) : heard.peer x = if x = k then (s.peer k).heard s.clk.n else s.peer x := by
      split
      · next hx => rw [hx, State.peer_putPeer_same]
      · next hx => rw [State.peer_putPeer_other _ _ _ _ (Ne.symm hx)]
    rw [State.peer_takeDone, State.peer_refresh (s := heard) hon]
    intro q
    have hq : heard.peers.recs.get p = q := hpeer p
    unfold refreshPeer
    rw [hq]
    refine ⟨fun r hr => ?_, fun hr => ?_⟩
    · intro grown passes
      have hpasses : refreshPasses heard.cfg.own p heard.peers.recs (refreshAdd k r) = true ↔ passes := by
        rw [refreshPasses_iff]
        refine and_congr_right fun _ => and_congr_right fun _ => ⟨fun hall x hx hl => ?_, fun hall x hx hl => ?_⟩
        · refine hall x hx ?_
          have hx' : (heard.peer x).st = .live := by
            rw [hpeer x]
            split
            · next hxk => exact (Peer.isLive_iff _).mp ((Peer.heard_isLive _ _).mpr (.inr (hxk ▸ hl)))
            · exact hl
          exact hx'
        · by_cases hxk : x = k
          · rw [hxk]
            exact grown_own r k
          · refine hall x hx ?_
            have hx' : (heard.peer x).st = .live := hl
            rwa [hpeer x, if_neg hxk] at hx'
      simp only [hr]
      exact ⟨fun hp => if_pos (hpasses.mpr hp), fun hp => if_neg fun h => hp (hpasses.mp h)⟩
    · dsimp only
      split
      · next r hr' => exact absurd hr' (hr r)
      all_goals rfl

/-- Settles O31, by the length that the STEAM carries and the age of its draw. -/
theorem steamTaken : Obligations.SteamTaken := by
  intro s k jar a b
  refine ⟨fun h hm => ?_, fun hr => congrArg Host.Outcome.next (State.takeKind_idle s _ .steam jar a b hr)⟩
  intro heard age running
  have hexec : exec (.steamTaken (senderCode k) jar a b) s = .next (heard.takeSteam k jar a b) :=
    exec_steamTaken_heard h hm jar a b
  rw [hexec]
  have hdraw : (⟨k, jar, a⟩ : Draw).inProgress heard.clk.n = true ↔ running := Draw.inProgress_iff ..
  refine ⟨fun ha => by rw [State.takeSteam, if_pos ha], fun ha hrun => ?_, fun ha hrun => ?_⟩
  · rw [State.takeSteam, if_neg ha]
    dsimp only
    rw [if_pos (hdraw.mpr hrun)]
    rfl
  · rw [State.takeSteam, if_neg ha]
    dsimp only
    rw [if_neg (mt hdraw.mp hrun)]
    rfl

/-- Settles O32, by the standing of the sender. -/
theorem withdrawTaken : Obligations.WithdrawTaken := by
  intro s k a h
  let p : Peer := { s.peer k with skew := 0, lastHeard := some s.clk.n }
  have hpeer : (s.putPeer k p).peer k = p := State.peer_putPeer_same ..
  have hexec (hm : ¬ (s.peer k).setApart) :
      exec (.withdrawTaken (senderCode k) a) s = .next ((s.putPeer k p).takeWithdraw k) :=
    exec_withdrawTaken_heard h hm a
  refine ⟨fun r hst => ?_, fun hst => ?_⟩
  · have hm : ¬ (s.peer k).setApart := by
      rintro ⟨why, hw⟩
      simp [hw] at hst
    rw [hexec hm, State.takeWithdraw_joined (r := r) (by rw [hpeer]; exact hst), State.setAside_eq, hpeer]
    exact congrArg Host.Outcome.next (State.putPeer_putPeer { s with track := holdsReopened k s.track } k p _)
  · have hm : ¬ (s.peer k).setApart := by
      rintro ⟨why, hw⟩
      simp [hw] at hst
    rw [hexec hm, State.takeWithdraw_gone (by rw [hpeer]; exact hst)]
    simp only [p, Peer.heard, hst, reduceCtorEq, if_false]

end Sys2Proof.Proofs
end


section
/-! PROOF. The HELLO, and the judgement of a frame received (O23, O26). -/

namespace Sys2Proof.Machine

variable {s : State} {k : Station}

/-! ### The checks of a HELLO (R72) -/

/-- The pitch definition that a HELLO carries is this station's (R72). -/
def HelloFacts.sameDef (i : Image) (f : HelloFacts) : Prop := f.pitchBit = i.pitchBit ∧ f.edge = i.edge

/-- The entry offsets stand in the order of the station numbers (R72). -/
def HelloFacts.ordered (i : Image) (k : Station) (f : HelloFacts) : Prop :=
  (stationNum k < i.number ∧ f.entry.toNat < i.entryOffset)
    ∨ (i.number < stationNum k ∧ i.entryOffset < f.entry.toNat)

/-- The reason of the first failing check of a HELLO (R72). -/
theorem helloCheck_def {i : Image} {f : HelloFacts} (h : ¬ f.sameDef i) : helloCheck i k f = some .pitchDef :=
  if_pos (by rwa [HelloFacts.sameDef, not_and_or] at h)

variable {i : Image} {f : HelloFacts} (hd : f.sameDef i)
include hd

theorem helloCheck_of_def : helloCheck i k f = if f.steam.toNat ≠ i.steamLimit then some .steamLimit
    else if (stationNum k < i.number ∧ f.entry.toNat < i.entryOffset)
      ∨ (i.number < stationNum k ∧ i.entryOffset < f.entry.toNat) then none else some .order :=
  if_neg (by rwa [← not_and_or, not_not])

theorem helloCheck_steam (h : f.steam.toNat ≠ i.steamLimit) : helloCheck i k f = some .steamLimit :=
  (helloCheck_of_def hd).trans (if_pos h)

theorem helloCheck_passes (hs : f.steam.toNat = i.steamLimit) (ho : f.ordered i k) : helloCheck i k f = none :=
  (helloCheck_of_def hd).trans ((if_neg (not_not_intro hs)).trans (if_pos ho))

theorem helloCheck_order (hs : f.steam.toNat = i.steamLimit) (ho : ¬ f.ordered i k) :
    helloCheck i k f = some .order :=
  (helloCheck_of_def hd).trans ((if_neg (not_not_intro hs)).trans (if_neg ho))

end Sys2Proof.Machine

namespace Sys2Proof.Machine

variable {s : State} {k : Station} {p : Peer}

/-! ### What becomes of the sender of a HELLO (R73) -/

theorem State.helloOutcome_joins (h : p.st = .absent ∨ p.st = .live) :
    s.helloOutcome k p none = s.putPeer k { p with st := .live } := by
  obtain ⟨st, facts, lapses, skew, heard⟩ := p
  rcases h with h | h
  · obtain rfl : st = .absent := h
    rfl
  · obtain rfl : st = .live := h
    rfl

theorem State.helloOutcome_parked {r : BitVec 8} (h : p.st = .parked r) :
    s.helloOutcome k p none = s.putPeer k p := by
  simp only [State.helloOutcome, h]

theorem State.helloOutcome_returns {why : MismatchReason} (h : p.st = .mismatched why) :
    s.helloOutcome k p none = s.putPeer k { p with st := .live, lapses := 0, skew := 0 } := by
  simp only [State.helloOutcome, h]

theorem State.helloOutcome_withdrawn (h : p.st = .withdrawn) (check : Option MismatchReason) :
    s.helloOutcome k p check = s.putPeer k p := by
  simp only [State.helloOutcome, h]

theorem State.helloOutcome_fails (h : p.st ≠ .withdrawn) (why : MismatchReason) :
    s.helloOutcome k p (some why) = s.setAside k { p with st := .mismatched why } := by
  obtain ⟨st, facts, lapses, skew, heard⟩ := p
  cases st with
  | withdrawn => exact absurd rfl h
  | _ => rfl

/-! ### A frame at the peer table (R70, R71, R75) -/

/-- A frame in step is judged by its sender and its kind; its stamp is not read again (R70). -/
theorem State.takeFrame_inStep {f g : RxFrame} (hf : inStep f.stamp s.clk.n = true)
    (hg : inStep g.stamp s.clk.n = true) (hsender : f.sender = g.sender) (hkind : f.kind = g.kind)
    (hdeliver : ∀ t : State, t.deliver f = t.deliver g) : s.takeFrame f = s.takeFrame g := by
  simp only [State.takeFrame, hf, hg, if_true, hsender, hkind, hdeliver]

theorem State.takeKind_station (k : Station) (kind : Kind) (jar : Word) (a b : Byte) :
    s.takeKind (senderCode k) kind jar a b = s.takeFrame ⟨k, kind, s.clk.n, jar, a, b⟩ := by
  simp only [State.takeKind, senderCode_toNat, stationOf_stationNum]

/-- The TAKEN row that a frame stands for (R70; log entry 6). -/
def RxFrame.row (f : RxFrame) : Instr :=
  match f.kind with
  | .hello => .helloTaken (senderCode f.sender) f.jar f.payA f.payB
  | .claim => .claimTaken (senderCode f.sender) f.jar f.payA f.payB
  | .release => .releaseTaken (senderCode f.sender) f.jar
  | .done => .doneTaken (senderCode f.sender) f.jar f.payA f.payB
  | .steam => .steamTaken (senderCode f.sender) f.jar f.payA f.payB
  | .withdraw => .withdrawTaken (senderCode f.sender) f.payA

theorem State.exec_row {f : RxFrame} (hf : inStep f.stamp s.clk.n = true) :
    exec f.row s = .next (s.takeFrame f) := by
  obtain ⟨k, kind, stamp, jar, a, b⟩ := f
  have hsame (jar' : Word) (a' b' : Byte)
      (hdeliver : ∀ t : State, t.deliver ⟨k, kind, s.clk.n, jar', a', b'⟩ = t.deliver ⟨k, kind, stamp, jar, a, b⟩) :
      (.next (s.takeKind (senderCode k) kind jar' a' b') : Host.Outcome State Fault Refusal)
        = .next (s.takeFrame ⟨k, kind, stamp, jar, a, b⟩) := by
    rw [State.takeKind_station]
    exact congrArg Host.Outcome.next (State.takeFrame_inStep (inStep_self _) hf rfl rfl hdeliver)
  cases kind with
  | hello => exact hsame jar a b fun _ => rfl
  | claim => exact hsame jar a b fun _ => rfl
  | release => exact hsame jar 0 0 fun _ => rfl
  | done => exact hsame jar a b fun _ => rfl
  | steam => exact hsame jar a b fun _ => rfl
  | withdraw => exact hsame 0 a 0 fun _ => rfl

theorem inStep_iff (stamp n : Word) : inStep stamp n = true ↔ stamp - n = 65535 ∨ stamp - n = 0 ∨ stamp - n = 1 := by
  simp only [inStep, Bool.or_eq_true, beq_iff_eq, or_assoc]

theorem State.takeFrame_own {f : RxFrame} (hr : s.inRun = true) (ho : s.cfg.isOwn f.sender = true) :
    s.takeFrame f = s.enterFault .duplicateId := by
  simp only [State.takeFrame, hr, ho, if_true]

variable {f : RxFrame} (hr : s.inRun = true) (ho : s.cfg.isOwn f.sender = false)
include hr ho

theorem State.takeFrame_setApart (hm : (s.peer f.sender).setApart) (hk : f.kind ≠ .hello) :
    s.takeFrame f = s.count ctrBadFrames := by
  have hmis : (s.peer f.sender).isMismatched = true := (Peer.isMismatched_iff _).mpr hm
  have hne : (f.kind != .hello) = true := bne_iff_ne.mpr hk
  simp only [State.takeFrame, hr, ho, hmis, hne, Bool.and_self, Bool.false_eq_true, if_true, if_false]

theorem State.takeFrame_skewed (hm : ¬ (s.peer f.sender).setApart ∨ f.kind = .hello)
    (hs : ¬ inStep f.stamp s.clk.n = true) : s.takeFrame f = s.takeSkewed f.sender := by
  have hpass : ¬ ((s.peer f.sender).isMismatched && f.kind != .hello) = true := by
    rw [Bool.and_eq_true, Peer.isMismatched_iff, bne_iff_ne]
    rintro ⟨h, hne⟩
    exact hm.elim (fun hm => hm h) hne
  simp only [State.takeFrame, hr, ho, Bool.false_eq_true, if_true, if_false, hpass, hs]

end Sys2Proof.Machine

namespace Sys2Proof.Machine

variable {s : State} {k : Station}

/-! ### A frame out of step (R75) -/

theorem State.takeSkewed_counted {r : BitVec 8}
    (h : (s.peer k).st = .absent ∨ (s.peer k).st = .live ∨ (s.peer k).st = .parked r) :
    s.takeSkewed k = if (s.peer k).skew + 1 = 8 then
        (s.count ctrSkewedFrames).setAside k
          { s.peer k with st := .mismatched .skew, skew := (s.peer k).skew + 1 }
      else (s.count ctrSkewedFrames).putPeer k { s.peer k with skew := (s.peer k).skew + 1 } := by
  have hpeer : (s.count ctrSkewedFrames).peer k = s.peer k := rfl
  rcases h with h | h | h <;> simp only [State.takeSkewed, hpeer, h] <;> rfl

theorem State.takeSkewed_withdrawn (h : (s.peer k).st = .withdrawn) :
    s.takeSkewed k = (s.count ctrSkewedFrames).putPeer k { s.peer k with skew := min 8 ((s.peer k).skew + 1) } := by
  have hpeer : (s.count ctrSkewedFrames).peer k = s.peer k := rfl
  simp only [State.takeSkewed, hpeer, h] <;> rfl

theorem State.takeSkewed_setApart (h : (s.peer k).setApart) : s.takeSkewed k = s.count ctrSkewedFrames := by
  have hpeer : (s.count ctrSkewedFrames).peer k = s.peer k := rfl
  obtain ⟨why, h⟩ := h
  simp only [State.takeSkewed, hpeer, h]

end Sys2Proof.Machine

namespace Sys2Proof.Proofs
open Sys2Proof.Machine

/-- Settles O26, by the checks of the HELLO and the standing of its sender. -/
theorem helloOutcome : Obligations.HelloOutcome := by
  intro s k jar a b h facts p flagged sameDef sameSteam ordered
  let noted : Peer := { s.peer k with skew := 0, lastHeard := some s.clk.n }
  have hexec : exec (.helloTaken (senderCode k) jar a b) s
      = .next ((flagged.putPeer k noted).helloOutcome k p (helloCheck s.cfg k facts)) := by
    rw [exec_helloTaken_heard h jar a b]
    refine congrArg Host.Outcome.next ?_
    rw [State.takeHello, State.peer_putPeer_same]
    rfl
  have hput (q : Peer) : (flagged.putPeer k noted).putPeer k q = flagged.putPeer k q :=
    State.putPeer_putPeer flagged k noted q
  rw [hexec]
  refine ⟨fun ⟨hd, hs, ho⟩ => ?_, fun hfail hw => ?_, fun hw => ?_⟩
  · rw [helloCheck_passes (by exact hd) hs (by exact ho)]
    refine ⟨fun hst => ?_, fun r hst => ?_, fun why hst => ?_⟩
    · rw [State.helloOutcome_joins (by exact hst), hput]
    · rw [State.helloOutcome_parked (r := r) (by exact hst), hput]
    · rw [State.helloOutcome_returns (why := why) (by exact hst), hput]
  · have hcheck : helloCheck s.cfg k facts
        = some (if ¬ sameDef then .pitchDef else if ¬ sameSteam then .steamLimit else .order) := by
      by_cases hd : sameDef
      · rw [if_neg (not_not_intro hd)]
        by_cases hs : sameSteam
        · rw [if_neg (not_not_intro hs)]
          exact helloCheck_order (by exact hd) hs fun ho => hfail ⟨hd, hs, ho⟩
        · rw [if_pos hs]
          exact helloCheck_steam (by exact hd) hs
      · rw [if_pos hd]
        exact helloCheck_def (by exact hd)
    rw [hcheck, State.helloOutcome_fails (by exact hw), State.setAside_eq]
    exact congrArg Host.Outcome.next
      (State.putPeer_putPeer { flagged with track := holdsReopened k s.track } k noted _)
  · rw [State.helloOutcome_withdrawn (by exact hw), hput]

/-- Settles O23, by the checks in their order: the watcher, the bytes, the own number, the sender, the step. -/
theorem frameReceivedJudged : Obligations.FrameReceivedJudged := by
  intro bytes s ended
  refine ⟨fun hidle => ?_, fun hm hw hs => ?_⟩
  · refine congrArg Host.Outcome.next (if_neg ?_)
    rintro ⟨hm, hw, hs⟩
    rcases hidle with h | h | h
    · exact hm h
    · exact h hw
    · simp [hs] at h
  · have hexec : exec (.frameReceived bytes) s = .next (ended.judgeFrame bytes) :=
      exec_frameReceived s bytes hm hw hs
    rw [hexec]
    refine ⟨fun hr => ?_, fun hr hb => ?_, fun f hr hb => ?_⟩
    · have hr' : ended.inRun = false := hr
      refine congrArg Host.Outcome.next ?_
      unfold State.judgeFrame
      split
      · rw [State.takeFrame, hr', if_neg Bool.false_ne_true]
      · rw [hr', if_neg Bool.false_ne_true]
    · have hr' : ended.inRun = true := hr
      simp only [State.judgeFrame, hb, hr', if_true]
    · have htake : ended.judgeFrame bytes = ended.takeFrame f := by simp only [State.judgeFrame, hb]
      have hr' : ended.inRun = true := hr
      rw [htake]
      refine ⟨fun hstep => ?_, fun ho => ?_, fun why ho hst hk => ?_, fun ho h1 h2 h3 => ?_⟩
      · exact (State.exec_row (s := ended) ((inStep_iff _ _).mpr hstep)).symm
      · refine ⟨_, congrArg Host.Outcome.next (State.takeFrame_own hr' (decide_eq_true ho)), ?_⟩
        rw [State.enterFault_frame]
        exact ⟨rfl, rfl, rfl, rfl, rfl, rfl, rfl, rfl, rfl, rfl, rfl, rfl⟩
      · exact congrArg Host.Outcome.next
          (State.takeFrame_setApart hr' (decide_eq_false ho) ⟨why, hst⟩ hk)
      · have hout : ¬ inStep f.stamp ended.clk.n = true := by
          rw [inStep_iff]
          rintro (h | h | h)
          · exact h1 h
          · exact h2 h
          · exact h3 h
        have hskew (hset : ¬ (ended.peer f.sender).setApart ∨ f.kind = .hello) :
            ended.takeFrame f = ended.takeSkewed f.sender :=
          State.takeFrame_skewed hr' (decide_eq_false ho) hset hout
        refine ⟨fun r hst => ?_, fun hst => ?_, fun hset hk => ?_⟩
        · rw [hskew (.inl ?_), State.takeSkewed_counted (s := ended) hst]
          · refine ⟨fun h8 => congrArg Host.Outcome.next (if_neg h8), fun h8 => ?_⟩
            refine congrArg Host.Outcome.next ((if_pos h8).trans ?_)
            rw [State.setAside_eq, ← h8]
            rfl
          · rintro ⟨why, hw⟩
            have hw' : (s.peer f.sender).st = .mismatched why := hw
            simp [hw'] at hst
        · rw [hskew (.inl ?_), State.takeSkewed_withdrawn (s := ended) hst]
          · rfl
          · rintro ⟨why, hw⟩
            have hw' : (s.peer f.sender).st = .mismatched why := hw
            simp [hw'] at hst
        · rw [hskew (.inr hk), State.takeSkewed_setApart (s := ended) hset]

end Sys2Proof.Proofs
end


section
/-! PROOF. The drive: its samples, its ends and its expiry (O15, O17). -/

namespace Sys2Proof.Machine

variable {s : State}

/-! ### An own verdict (R147) -/

/-- The counter and the DONE of an own verdict, and the reject handed to the gate (R147). -/
theorem State.setOwnVerdict_counted {pre post : List Jar} {j : Jar} {v : Verdict} (m : Measurements)
    {ctr : Fin 30} (h : s.holds pre j post) (hv : ctrOwnVerdict? v = some ctr) :
    let disp := dispositionOf s.cfg v j.nearFlag
    let judged : State :=
      ({ s with track := pre ++ { j with st := .done v (.station s.cfg.own) disp (some m) } :: post
        }.count ctr).enqueue (doneFrame j v disp m)
    s.setOwnVerdict j v m
      = if s.cfg.gateRole = true ∧ disp = .reject then judged.gateInsert j.pitch v else judged := by
  intro disp judged
  have hcfg : judged.cfg = s.cfg := by simp only [judged, State.enqueue_cfg, State.count_cfg]
  rw [State.setOwnVerdict, State.putJar_holds s _ h (by rfl)]
  simp only [State.countOwnVerdict, hv]
  rw [State.handToGate_eq]
  refine ite_congr (by rw [State.enqueue_cfg, State.count_cfg]) (fun _ => rfl) fun _ => rfl

/-! ### What does not read the head -/

theorem State.enqueue_withHead (f : TxFrame) (h : Head) :
    State.enqueue f { s with head := h } = { s.enqueue f with head := h } := by
  unfold State.enqueue
  split <;> rfl

theorem State.gateInsert_withHead (p : Word) (v : Verdict) (h : Head) :
    State.gateInsert p v { s with head := h } = { s.gateInsert p v with head := h } := by
  by_cases hheld : s.gate.queue.any (fun x => x.pitch == p) = true
  · simp only [State.gateInsert, hheld, if_true]
  · by_cases hroom : s.gate.queue.length < Config.gatePlaces
    · simp only [State.gateInsert, hheld, hroom, if_true]
      rfl
    · simp only [State.gateInsert, hheld, hroom, if_false]
      rfl

theorem State.countOwnVerdict_withHead (v : Verdict) (h : Head) :
    State.countOwnVerdict v { s with head := h } = { s.countOwnVerdict v with head := h } := by
  unfold State.countOwnVerdict
  split <;> rfl

theorem State.handToGate_withHead (p : Word) (v : Verdict) (disp : Disposition) (h : Head) :
    State.handToGate p v disp { s with head := h } = { s.handToGate p v disp with head := h } := by
  rw [State.handToGate_eq, State.handToGate_eq, State.gateInsert_withHead]
  by_cases hg : s.cfg.gateRole = true ∧ disp = .reject
  · rw [if_pos hg, if_pos hg]
  · rw [if_neg hg, if_neg hg]

theorem State.setOwnVerdict_withHead (j : Jar) (v : Verdict) (m : Measurements) (h : Head) :
    State.setOwnVerdict j v m { s with head := h } = { s.setOwnVerdict j v m with head := h } := by
  have hput (x : Jar) : State.putJar x { s with head := h } = { s.putJar x with head := h } := rfl
  simp only [State.setOwnVerdict, hput, State.countOwnVerdict_withHead, State.enqueue_withHead,
    State.handToGate_withHead]

/-! ### How a drive ends (R117, R141) -/

/-- An expiry passes with the seat reached and the peak within tol_u of the target (R141). -/
theorem classifyDrive_expiry {i : Image} {e : ProfileEntry} {peak theta : Byte} {seat : Bool} :
    classifyDrive i e .expiry peak theta seat
      = if seat = true ∧ e.target.toNat ≤ peak.toNat + i.tolUnder then .torqueOkNear else .fails .under := by
  simp only [classifyDrive, Bool.and_eq_true, decide_eq_true_eq]

section Ends

variable {j : Jar} {m : Measurements} {how : DriveEnd} (hj : s.chuckJar? = some (j, m))
include hj

theorem State.endDrive_ok
    (hc : classifyDrive s.cfg s.head.entry how m.peak m.theta s.head.seatReached = .torqueOk) :
    s.endDrive how = { s with head := { s.head with phase := .ended } } := by
  simp only [State.endDrive, hj, hc]

theorem State.endDrive_fails {v : Verdict}
    (hc : classifyDrive s.cfg s.head.entry how m.peak m.theta s.head.seatReached = .fails v) :
    s.endDrive how = { s.setOwnVerdict j v m with
      head := { s.head with phase := .ended, chuck := .lift, cyclePitch := none, valveLeft := 0 } } := by
  simp only [State.endDrive, hj, hc, State.setOwnVerdict_withHead, State.earlyLift]

theorem State.endDrive_near {pre post : List Jar} (hh : s.holds pre j post)
    (hc : classifyDrive s.cfg s.head.entry how m.peak m.theta s.head.seatReached = .torqueOkNear) :
    s.endDrive how = { s with
      track := pre ++ { j with nearFlag := true } :: post
      head := { s.head with phase := .ended } } := by
  let ended : State := { s with head := { s.head with phase := .ended } }
  have hput := State.putJar_holds ended { j with nearFlag := true } hh rfl
  rw [← hput]
  simp only [State.endDrive, ended, hj, hc]

/-! ### The hold end (R118, R143) -/

theorem State.holdEnd_ok (h : ¬ s.head.entry.target.toNat + s.cfg.tolOver < m.peak.toNat) :
    s.holdEnd = { s with head := { s.head with chuck := .lift } } := by
  simp only [State.holdEnd, hj, overTorqueHolds, h, decide_false, Bool.false_eq_true, if_false, State.plannedLift]

theorem State.holdEnd_pass {pre post : List Jar} (hh : s.holds pre j post)
    (h : s.head.entry.target.toNat + s.cfg.tolOver < m.peak.toNat) (hp : s.cfg.overPass = true) :
    s.holdEnd = { s with
      track := pre ++ { j with overFlag := true } :: post, head := { s.head with chuck := .lift } } := by
  simp only [State.holdEnd, hj, overTorqueHolds, h, decide_true, if_true, hp, State.plannedLift,
    State.putJar_holds s { j with overFlag := true } hh rfl]

theorem State.holdEnd_over (h : s.head.entry.target.toNat + s.cfg.tolOver < m.peak.toNat)
    (hp : s.cfg.overPass = false) :
    s.holdEnd = { s.setOwnVerdict j .overTorque m with
      head := { s.head with chuck := .lift, cyclePitch := none, valveLeft := 0 } } := by
  simp only [State.holdEnd, hj, overTorqueHolds, h, decide_true, if_true, hp, Bool.false_eq_true, if_false,
    State.earlyLift, State.setOwnVerdict_head]

/-! ### The end of the DRIVE stage (R117) -/

variable (hc : s.head.chuck = .drive)
include hc

omit hj in
theorem State.endDriveStage_ended (hp : s.head.phase ≠ .running) :
    s.endDriveStage = if s.head.plan.hold = 0 then s.holdEnd else { s with head := { s.head with chuck := .hold } } := by
  simp only [State.endDriveStage, hp, if_false, hc, if_true, State.leaveDrive]

variable (hp : s.head.phase = .running)
include hp

/-- An expiry that passes sets the near flag, and the jar goes on (R117, R142). -/
theorem State.endDriveStage_near {pre post : List Jar} (hh : s.holds pre j post)
    (h : s.head.seatReached = true ∧ s.head.entry.target.toNat ≤ m.peak.toNat + s.cfg.tolUnder) :
    s.endDriveStage = State.leaveDrive { s with
      track := pre ++ { j with nearFlag := true } :: post, head := { s.head with phase := .ended } } := by
  simp only [State.endDriveStage, hp, if_true, State.endDrive_near hj hh (classifyDrive_expiry.trans (if_pos h)), hc]

omit hc in
/-- An expiry that does not pass is UNDER, and lifts the chuck (R117, R141). -/
theorem State.endDriveStage_under
    (h : ¬ (s.head.seatReached = true ∧ s.head.entry.target.toNat ≤ m.peak.toNat + s.cfg.tolUnder)) :
    s.endDriveStage = { s.setOwnVerdict j .under m with
      head := { s.head with phase := .ended, chuck := .lift, cyclePitch := none, valveLeft := 0 } } := by
  simp only [State.endDriveStage, hp, if_true, State.endDrive_fails hj (classifyDrive_expiry.trans (if_neg h)),
    reduceCtorEq, if_false]

end Ends

end Sys2Proof.Machine

namespace Sys2Proof.Machine

variable {s : State} {pre post : List Jar} {j : Jar} {m : Measurements}

/-- An expiry that passes with a HOLD to come (R117). -/
theorem State.endDriveStage_toHold (hh : s.holds pre j post) (hj : s.chuckJar? = some (j, m))
    (hc : s.head.chuck = .drive) (hp : s.head.phase = .running)
    (h : s.head.seatReached = true ∧ s.head.entry.target.toNat ≤ m.peak.toNat + s.cfg.tolUnder)
    (hhold : 0 < s.head.plan.hold) :
    s.endDriveStage = { s with
      track := pre ++ { j with nearFlag := true } :: post
      head := { s.head with phase := .ended, chuck := .hold } } := by
  rw [State.endDriveStage_near hj hc hp hh h]
  exact if_neg (Nat.pos_iff_ne_zero.mp hhold)

/-- An expiry that passes with no HOLD to come and no over-torque (R117, R118). -/
theorem State.endDriveStage_toLift (hh : s.holds pre j post) (hcyc : s.head.cyclePitch = some j.pitch)
    (hst : j.st = .inChuck m) (hc : s.head.chuck = .drive) (hp : s.head.phase = .running)
    (h : s.head.seatReached = true ∧ s.head.entry.target.toNat ≤ m.peak.toNat + s.cfg.tolUnder)
    (hhold : s.head.plan.hold = 0) (hover : ¬ s.head.entry.target.toNat + s.cfg.tolOver < m.peak.toNat) :
    s.endDriveStage = { s with
      track := pre ++ { j with nearFlag := true } :: post
      head := { s.head with phase := .ended, chuck := .lift } } := by
  rw [State.endDriveStage_near (State.chuckJar_holds s hh hcyc hst) hc hp hh h]
  let near : State := { s with
    track := pre ++ { j with nearFlag := true } :: post, head := { s.head with phase := .ended } }
  have hnear : near.chuckJar? = some ({ j with nearFlag := true }, m) :=
    State.chuckJar_holds near (pre := pre) (post := post) ⟨rfl, hh.2⟩ hcyc hst
  exact (if_pos hhold).trans (State.holdEnd_ok (s := near) hnear hover)

/-- A torque sample while the drive is RUNNING, with its reading in the chuck's record (R115). -/
theorem State.sampleRunning_holds (hh : s.holds pre j post) (tau : Byte) :
    let peak := byteMax m.peak tau
    let theta : Byte := if s.head.seatReached = false ∧ s.cfg.seatThreshold ≤ tau.toNat then 0 else m.theta
    let seated := s.head.seatReached = true ∨ s.cfg.seatThreshold ≤ tau.toNat
    let kept : State :=
      { s with
        track := pre ++ { j with st := .inChuck { m with peak := peak, theta := theta } } :: post
        head := { s.head with seatReached := decide seated } }
    s.sampleRunning j m tau = if s.head.entry.target.toNat ≤ peak.toNat then kept.endDrive .torqueReached
      else if seated ∧ s.head.entry.amax.toNat ≤ theta.toNat then kept.endDrive .angleLimit else kept := by
  intro peak theta seated kept
  have hseat : (s.head.seatReached || (!s.head.seatReached && decide (s.cfg.seatThreshold ≤ tau.toNat)))
      = decide seated := by
    simp only [seated]
    cases s.head.seatReached <;> simp
  have htheta : (if (!s.head.seatReached && decide (s.cfg.seatThreshold ≤ tau.toNat)) = true then (0 : Byte)
      else m.theta) = theta := by
    simp only [theta, Bool.and_eq_true, Bool.not_eq_true', decide_eq_true_eq]
  have hput := State.putJar_holds s { j with st := .inChuck { m with peak := peak, theta := theta } } hh rfl
  simp only [State.sampleRunning, hseat, htheta]
  rw [hput]
  simp only [Bool.and_eq_true, decide_eq_true_eq]
  rfl

end Sys2Proof.Machine

namespace Sys2Proof.Proofs
open Sys2Proof.Machine

/-- Settles O15: the sample leaves its reading in the record, and the end of the drive, where one comes, judges
that reading. -/
theorem torqueSampleRunning : Obligations.TorqueSampleRunning := by
  intro s pre post j m tau hm hh hcyc hc hp hj peak seatsNow theta seated reading kept judged failed
  have hexec : exec (.torqueSample tau) s = .next (s.sampleRunning j m tau) := by
    refine congrArg Host.Outcome.next ((if_pos hm).trans ?_)
    simp only [State.takeSample, State.chuckJar_holds s hh hcyc hj, hc, hp]
  have hsample := State.sampleRunning_holds (m := m) hh tau
  have hkept : kept.holds pre { j with st := .inChuck reading } post := ⟨rfl, hh.2⟩
  have hchuck : kept.chuckJar? = some ({ j with st := .inChuck reading }, reading) :=
    State.chuckJar_holds kept hkept hcyc rfl
  have hverdict (v : Verdict) (ctr : Fin 30) (hv : ctrOwnVerdict? v = some ctr)
      (hd : dispositionOf s.cfg v j.nearFlag = .reject) :
      { kept.setOwnVerdict { j with st := .inChuck reading } v reading with
        head := { kept.head with phase := .ended, chuck := .lift, cyclePitch := none, valveLeft := 0 } }
        = failed v ctr := by
    let base : State := { s with track := pre ++ { j with st := .inChuck reading } :: post }
    have hbase := State.setOwnVerdict_counted (s := base) (pre := pre) (post := post)
      (j := { j with st := .inChuck reading }) reading ⟨rfl, hh.2⟩ hv
    have hset : kept.setOwnVerdict { j with st := .inChuck reading } v reading
        = { base.setOwnVerdict { j with st := .inChuck reading } v reading with head := kept.head } :=
      State.setOwnVerdict_withHead (s := base) _ v reading kept.head
    rw [hset, hbase]
    simp only [hd, and_true, base]
    rfl
  rw [hexec, hsample]
  refine ⟨fun ht ha => ?_, fun ht ha => ?_, fun ht hseat ha => ?_, fun ht ha => ?_⟩
  · refine congrArg Host.Outcome.next ((if_pos ht).trans (State.endDrive_ok (s := kept) hchuck ?_))
    exact if_neg (Nat.not_lt.mpr ha)
  · refine congrArg Host.Outcome.next ((if_pos ht).trans
      ((State.endDrive_fails (s := kept) (v := .crossed) hchuck ?_).trans (hverdict .crossed 9 rfl rfl)))
    exact if_pos ha
  · exact congrArg Host.Outcome.next ((if_neg (Nat.not_le.mpr ht)).trans ((if_pos ⟨hseat, ha⟩).trans
      ((State.endDrive_fails (s := kept) (v := .spin) hchuck rfl).trans (hverdict .spin 10 rfl rfl))))
  · exact congrArg Host.Outcome.next ((if_neg (Nat.not_le.mpr ht)).trans (if_neg ha))

/-- Settles O17: the end of the DRIVE stage, with the drive still RUNNING. -/
theorem driveExpiryJudged : Obligations.DriveExpiryJudged := by
  intro s pre post j m
  refine ⟨fun hm hh hcyc hc hp hj hd => ?_, fun h => congrArg Host.Outcome.next (if_neg ?_)⟩
  · intro passes judged
    have hexec : exec .driveExpiry s = .next s.endDriveStage :=
      congrArg Host.Outcome.next (if_pos ⟨hm, hc, hp, (State.atHoldBegin_of s hcyc).mpr hd⟩)
    have hchuck := State.chuckJar_holds s hh hcyc hj
    rw [hexec]
    refine ⟨fun hpass hhold => ?_, fun hpass hhold hover => ?_, fun hpass => ?_⟩
    · rw [State.endDriveStage_toHold hh hchuck hc hp hpass hhold]
    · rw [State.endDriveStage_toLift hh hcyc hj hc hp hpass hhold (Nat.not_lt.mpr hover)]
    · rw [State.endDriveStage_under hchuck hp hpass, State.setOwnVerdict_counted (v := .under) m hh rfl]
      simp only [dispositionOf, and_true]
      rfl
  · rintro ⟨-, -, hp, hd⟩
    rcases h with h | ⟨hcyc, h⟩
    · exact h hp
    · exact h ((State.atHoldBegin_of s hcyc).mp hd)

end Sys2Proof.Proofs
end


section
/-! PROOF. A strobe with one record in the track: what each part of it does there (R8, R44). -/

namespace Sys2Proof.Machine

variable {s t : State} {j : Jar} {m : Measurements} {pins : StrobePins}

/-! ### The parts of a strobe -/

/-- The part of a strobe from the stale removals on: claims, stage work, probe and exit decision (R44). -/
def State.work (pins : StrobePins) (t : State) : State :=
  (((t.dropStale.endDraws.claimTest).stageWork pins).probe pins).exitDecision

/-- A strobe that begins on `s.advanceN`, in the order of its parts. -/
theorem State.strobe_parts (h : s.sighted pins = s.advanceN) :
    s.strobe pins = ((s.advanceN.lapseChecks.vacateChuck).engageOrFall pins).work pins :=
  congrArg (fun t => ((t.lapseChecks.vacateChuck).engageOrFall pins).work pins) h

/-- With nothing to decide at the gate, nothing to sight and nothing to retire, a strobe advances N alone. -/
theorem State.sighted_quiet (hg : s.cfg.gateRole = true → s.gate = ⟨[], false, .pass⟩) (he : pins.eye = false)
    (hd : ∀ j ∈ s.track, distance (s.clk.n + 1) j.pitch < s.cfg.retireDistance) :
    s.sighted pins = s.advanceN := by
  have hgate : s.advanceN.gateDecision = s.advanceN := by
    by_cases hrole : s.cfg.gateRole = true
    · have hq : s.advanceN.gate = ⟨[], false, .pass⟩ := hg hrole
      have hrole' : s.advanceN.cfg.gateRole = true := hrole
      have hdec : s.advanceN.gate.decide s.advanceN.cfg s.advanceN.clk.n = s.advanceN.gate := by
        rw [hq]
        rfl
      have hout : s.advanceN.gate.output = .pass := by rw [hq]
      simp only [State.gateDecision, hrole', if_true, hdec, hout]
    · exact State.gateDecision_none _ (Bool.not_eq_true _ ▸ hrole)
  rw [State.sighted, hgate]
  exact State.ageTrack_none _ pins he hd

/-! ### One record -/

theorem State.holds_single (h : t.track = [j]) : t.holds [] j [] := ⟨h, by simp⟩

theorem State.forall_track_single {P : Jar → Prop} (h : t.track = [j]) (hj : P j) : ∀ x ∈ t.track, P x := by
  rw [h]
  simpa using hj

theorem Jar.notDue_of (n : Word) (h : ∀ (k : Station) (p : Word) (ahead : Bool), j.st ≠ .heldPeer k p ahead) :
    j.dueAt n = false := by
  unfold Jar.dueAt
  split
  · next k p ahead hst => exact absurd hst (h k p ahead)
  · rfl

/-- With an empty queue and no draw, a strobe goes from the claim test on. -/
theorem State.work_quiet (hq : t.line.queue = []) (hd : t.steam.draws = []) :
    t.work pins = ((t.claimTest.stageWork pins).probe pins).exitDecision := by
  rw [State.work, State.dropStale_nil _ hq, State.endDraws_none _ hd]

/-- With a record that no test may claim, the claim test leaves the track. -/
theorem State.claimTest_single (ht : t.track = [j])
    (h : stateTest j = false ∨ t.cfg.entryOffset ≤ t.dist j.pitch
      ∨ t.dist j.pitch < t.cfg.entryOffset - t.cfg.claimLead) : t.claimTest = t := by
  refine State.claimTest_none t (State.forall_track_single ht fun hlow hhigh => ?_)
  rcases h with h | h | h
  · exact h
  · exact absurd hhigh (Nat.not_lt.mpr h)
  · exact absurd hlow (Nat.not_le.mpr h)

/-- No own record waits at the probe. -/
theorem State.probe_single (ht : t.track = [j])
    (h : t.dist j.pitch = t.cfg.probeDistance → ∀ m, j.st ≠ .probeWait m) : t.probe pins = t :=
  State.probe_none t pins (State.forall_track_single ht h)

/-- The exit decision leaves a record that is DONE, or does not stand at X (R155). -/
theorem State.exitDecision_single (ht : t.track = [j])
    (h : j.isDone = true ∨ (t.cfg.gateRole = true → t.dist j.pitch ≠ t.cfg.bankExit)) : t.exitDecision = t := by
  by_cases hg : t.cfg.gateRole = true
  · simp only [State.exitDecision, hg, if_true, ht, List.find?_cons, List.find?_nil]
    by_cases hx : t.dist j.pitch = t.cfg.bankExit
    · have hdone : j.isDone = true := h.resolve_right fun h => h hg hx
      simp only [hx, decide_true, hdone, if_true]
    · simp only [hx, decide_false]
  · exact State.exitDecision_none t (Bool.not_eq_true _ ▸ hg)

/-- No record is CLAIMED, so the busy count falls. -/
theorem State.engageOrFall_single (ht : t.track = [j]) (h : j.isClaimed = false) :
    t.engageOrFall pins = { t with claims := { t.claims with busy := t.claims.busy - 1 } } :=
  State.engageOrFall_none t pins fun _ => State.jarToEngage_none t (State.forall_track_single ht h)

/-! ### The claim test of one record (R44 to R51) -/

/-- The record is claimed exactly when its tests hold; the slot test holds with the empty queue (R45). -/
theorem State.claimTest_open {b : Fin 16} (ht : t.track = [j]) (hm : t.ctl.mode = .run) (hq : t.line.queue = [])
    (hb : j.band = some b) (hj : j.st = .openJar) (hlow : t.cfg.entryOffset - t.cfg.claimLead ≤ t.dist j.pitch)
    (hhigh : t.dist j.pitch < t.cfg.entryOffset) :
    t.claimTest = if t.pins.capLow = false
          ∧ (t.verdicts.profile.get b).target ≠ 0
          ∧ (t.cfg.share.getLsbD ((j.pitch.toNat + t.cfg.sharePhase) % 8) = true
              ∨ (∀ k : Station, t.cfg.number < stationNum k → (t.peer k).isLive = false)
              ∨ j.reopened = true)
          ∧ t.claims.openClaims < t.cfg.commitLimit
          ∧ t.claims.busy ≤ t.cfg.entryOffset - t.dist j.pitch then
        { t with
          track := [{ j with st := .claimed }]
          claims := { t.claims with openClaims := t.claims.openClaims + 1 }
          line := { t.line with queue :=
            [⟨.claim, j.pitch, byteOf (t.cfg.entryOffset + t.cfg.window + t.cfg.probeOffset + 1),
              byteOf b.val⟩] } }.count ctrClaimsMade
      else t := by
  have hrange : t.claimRange = [j.pitch] := by
    simp only [State.claimRange, ht, List.filter_cons, List.filter_nil, hlow, hhigh, decide_true, Bool.and_self,
      if_true, List.map_cons, List.map_nil]
  have htail : t.isTail = true ↔ ∀ k : Station, t.cfg.number < stationNum k → (t.peer k).isLive = false := by
    simp only [State.isTail, List.all_eq_true, List.mem_finRange, forall_const, Bool.or_eq_true,
      decide_eq_true_eq, Bool.not_eq_true']
    exact forall_congr' fun k => by rw [or_iff_not_imp_left, Nat.not_le]
  have hclaimable : claimable t j = true ↔ (t.verdicts.profile.get b).target ≠ 0
      ∧ (t.cfg.share.getLsbD ((j.pitch.toNat + t.cfg.sharePhase) % 8) = true
          ∨ (∀ k : Station, t.cfg.number < stationNum k → (t.peer k).isLive = false) ∨ j.reopened = true)
      ∧ t.claims.openClaims < t.cfg.commitLimit ∧ t.claims.busy ≤ t.cfg.entryOffset - t.dist j.pitch := by
    have hown : (j.isClaimed || j.isInChuck) = false := by simp only [Jar.isClaimed, Jar.isInChuck, hj, Bool.or_self]
    simp only [claimable, stateTest, hj, profileTest, hb, shareTest, patternBit, commitTest, spacingTest, slotTest, ht,
      hq, List.all_cons, List.all_nil, hown, Bool.not_false, Bool.true_or, Bool.and_true, Bool.true_and,
      Bool.and_eq_true, Bool.or_eq_true, decide_eq_true_eq, htail, List.length_nil, and_assoc, or_assoc]
    simp only [Config.txPlaces, Nat.zero_lt_succ, and_true]
  have hmake : t.makeClaim j = { t with
      track := [{ j with st := .claimed }]
      claims := { t.claims with openClaims := t.claims.openClaims + 1 }
      line := { t.line with queue :=
        [⟨.claim, j.pitch, byteOf (t.cfg.entryOffset + t.cfg.window + t.cfg.probeOffset + 1),
          byteOf b.val⟩] } }.count ctrClaimsMade := by
    simp only [State.makeClaim, State.putJar_holds t { j with st := .claimed } (State.holds_single ht) rfl]
    rw [State.enqueue_room _ _ (by simp [hq])]
    simp only [hq, List.nil_append, claimFrame, hb, Option.map_some, Option.getD_some]
    rfl
  simp only [State.claimTest, hm, true_and, hrange, List.foldl_cons, List.foldl_nil, State.claimOne,
    State.findJar_holds t (State.holds_single ht), hclaimable, hmake, ← ite_and]

/-! ### An own verdict in the scene (R147) -/

/-- With an empty queue, and an empty gate queue where there is one, an own verdict is one change (R147, R157). -/
theorem State.setOwnVerdict_single {v : Verdict} {ctr : Fin 30} (ht : t.track = [j]) (hq : t.line.queue = [])
    (hg : t.cfg.gateRole = true → t.gate = ⟨[], false, .pass⟩) (hv : ctrOwnVerdict? v = some ctr) :
    t.setOwnVerdict j v m = { t with
      track := [{ j with st := .done v (.station t.cfg.own) (dispositionOf t.cfg v j.nearFlag) (some m) }]
      line := { t.line with queue := [doneFrame j v (dispositionOf t.cfg v j.nearFlag) m] }
      gate := if t.cfg.gateRole = true ∧ dispositionOf t.cfg v j.nearFlag = Disposition.reject
        then ⟨[⟨j.pitch, v⟩], false, .pass⟩ else t.gate }.count ctr := by
  rw [State.setOwnVerdict_counted m (State.holds_single ht) hv]
  dsimp only
  rw [State.enqueue_room _ _ (by simp [hq])]
  split
  · next hrole =>
    rw [State.gateInsert_room _ (by simp [hg hrole.1]) (by simp [hg hrole.1])]
    simp only [State.count_gate, hg hrole.1, gatePlace, State.count_line, hq, List.nil_append]
    rfl
  · simp only [State.count_line, hq, List.nil_append]
    rfl

end Sys2Proof.Machine
end


section
/-! PROOF. Claims, cap checks, FLUSH start and the later stages at a strobe (O6 to O9). -/

namespace Sys2Proof.Machine

variable {s t : State} {j : Jar} {m : Measurements} {pins : StrobePins}

/-! ### The scenes -/

theorem State.sighted_strobeScene (h : s.strobeScene pins j) : s.sighted pins = s.advanceN := by
  obtain ⟨-, hg, ht, -, -, he, hrd⟩ := h
  exact State.sighted_quiet (by simp [hg]) he (State.forall_track_single ht hrd)

theorem State.sighted_headScene (h : s.headScene pins j) : s.sighted pins = s.advanceN := by
  obtain ⟨-, hg, ht, -, -, he, hrd⟩ := h
  exact State.sighted_quiet hg he (State.forall_track_single ht hrd)

/-- Where no promise falls due, no chuck is vacated and no cycle begins, a strobe is a tick and its work. -/
theorem State.strobe_tick (hs : s.sighted pins = s.advanceN) (ht : s.track = [j])
    (hdue : j.dueAt (s.clk.n + 1) = false) (hv : s.advanceN.vacateChuck = s.advanceN) (hc : j.isClaimed = false) :
    s.strobe pins = s.tick.work pins := by
  have hlapse : s.advanceN.lapseChecks = s.advanceN :=
    State.lapseChecks_none _ (State.forall_track_single ht hdue)
  rw [State.strobe_parts hs, hlapse, hv, State.engageOrFall_single (t := s.advanceN) ht hc]
  rfl

/-- With no jar in the chuck and none at the probe or at X, the work of a strobe ends at its claim test. -/
theorem State.rest_quiet (hc : t.head.cyclePitch = none) (ht : t.track = [j]) (hp : ∀ m, j.st ≠ .probeWait m)
    (hg : t.cfg.gateRole = false) : ((t.stageWork pins).probe pins).exitDecision = t := by
  rw [State.stageWork_none t pins hc, State.probe_single ht fun _ => hp, State.exitDecision_none t hg]

/-- A record in the chuck is not due, not claimed, and no test may claim it. -/
theorem State.strobe_inChuck (hs : s.sighted pins = s.advanceN) (ht : s.track = [j]) (hd : s.steam.draws = [])
    (hq : s.line.queue = []) (hj : j.st = .inChuck m) (hv : s.advanceN.vacateChuck = s.advanceN) :
    s.strobe pins = ((s.tick.stageWork pins).probe pins).exitDecision := by
  rw [State.strobe_tick hs ht (Jar.notDue_of _ (by simp [hj])) hv (by simp [Jar.isClaimed, hj]),
    State.work_quiet (t := s.tick) hq hd, State.claimTest_single (t := s.tick) ht (.inl (by simp [stateTest, hj]))]

theorem State.finish_single (ht : t.track = [j]) (hp : ∀ m, j.st ≠ .probeWait m) (hg : t.cfg.gateRole = false) :
    (t.probe pins).exitDecision = t := by
  rw [State.probe_single ht fun _ => hp, State.exitDecision_none t hg]

/-! ### The cap checks (R109, R110) -/

theorem State.toPick_eq : t.toPick = { t with head := t.head.atPick t.cfg.returnPitches } := rfl

theorem State.capCheck_found : t.capCheck true = { t with head := { t.head with capFound := true } } := rfl

theorem State.capCheck_retry (h : 0 < t.head.retriesLeft) :
    t.capCheck false = { t with head := { t.head with retriesLeft := t.head.retriesLeft - 1 } } := by
  simp only [State.capCheck, Bool.false_eq_true, if_false, h, if_true]

/-- NO_CAP: the jar is given back, a RELEASE queued, and the chuck goes to the pick position (R110). -/
theorem State.capCheck_noCap (ht : t.track = [j]) (hq : t.line.queue = []) (hc : t.head.cyclePitch = some j.pitch)
    (hj : j.st = .inChuck m) (h : t.head.retriesLeft = 0) :
    t.capCheck false = { t with
      track := [j.givenBack]
      line := { t.line with queue := [⟨.release, j.pitch, 0, 0⟩] }
      head := t.head.atPick t.cfg.returnPitches }.count ctrNoCap := by
  have hchuck := State.chuckJar_holds t (State.holds_single ht) hc hj
  simp only [State.capCheck, Bool.false_eq_true, if_false, h, Nat.lt_irrefl, State.noCap, hchuck, State.toPick_eq]
  rw [State.giveBack_holds (State.holds_single ht), State.enqueue_room _ _ (by simp [hq])]
  simp only [hq, List.nil_append]
  rfl

/-- A queue with no stale frame is left by the stale test of a strobe (R98, R99). -/
theorem State.dropStale_fresh (h : ∀ f ∈ t.line.queue, staleFrame t.cfg t.clk.n f = false) : t.dropStale = t := by
  have hwait : t.line.waiting.filter (staleFrame t.cfg t.clk.n) = [] := by
    refine List.filter_eq_nil_iff.mpr fun f hf => ?_
    have hmem : f ∈ t.line.queue := by
      unfold BankLine.waiting at hf
      split at hf
      · exact List.mem_of_mem_tail hf
      · exact hf
    simp [h f hmem]
  have hline : t.line.removeWaiting (staleFrame t.cfg t.clk.n) = t.line := by
    have hkeep (l : List TxFrame) (hl : ∀ f ∈ l, f ∈ t.line.queue) :
        l.filter (fun f => !staleFrame t.cfg t.clk.n f) = l :=
      List.filter_eq_self.mpr fun f hf => by simp [h f (hl f hf)]
    unfold BankLine.removeWaiting
    split
    · rfl
    · next f rest hq =>
      rw [hkeep (f :: rest) (by simp [hq]), hkeep rest (by simp +contextual [hq]), h f (by simp [hq]), ← hq]
      exact ite_self _
  unfold State.dropStale
  dsimp only
  rw [hline, hwait]
  exact State.countBy_zero ..

/-- The first strobe of ENGAGE makes no further cap check, and no stage begins (R110). -/
theorem State.stageWork_engage {p : Word} (hc : t.head.cyclePitch = some p) (hk : t.head.chuck = .engage)
    (hd : t.dist p = t.cfg.entryOffset) (he : 1 ≤ t.head.plan.engage) : t.stageWork pins = t := by
  have hflush : ¬ t.cfg.entryOffset = flushBegin t.cfg t.head.plan := by
    rw [flushBegin]
    omega
  simp only [State.stageWork, hc, hk, hflush, hd, if_true, if_false, ite_self]

end Sys2Proof.Machine

namespace Sys2Proof.Proofs
open Sys2Proof.Machine

/-- Settles O6: in the scene the claim test is all that a strobe adds to the tick. -/
theorem strobeClaims : Obligations.StrobeClaims := by
  intro pins s j b h hcyc hchuck hb hj hlow hhigh
  have hs := State.sighted_strobeScene h
  obtain ⟨hm, hg, ht, hd, hq, he, hrd⟩ := h
  have htick : s.strobe pins = s.tick.work pins :=
    State.strobe_tick hs ht (Jar.notDue_of _ (by simp [hj]))
      (State.vacateChuck_ready s.advanceN (by simp [hchuck]) (by simp [hchuck])) (by simp [Jar.isClaimed, hj])
  have hclaim := State.claimTest_open (t := s.tick) ht hm hq hb hj hlow hhigh
  rw [exec_pitchStrobe s pins (State.inRun_of_run s hm), htick, State.work_quiet (t := s.tick) hq hd]
  refine congrArg Host.Outcome.next (Eq.trans ?_ hclaim)
  rw [hclaim]
  split
  · exact State.rest_quiet hcyc rfl (by simp) hg
  · exact State.rest_quiet hcyc ht (by simp [hj]) hg

/-- Settles O7: ENGAGE start on the record at E, and the cap check of each later strobe. -/
theorem strobeEngages : Obligations.StrobeEngages := by
  refine ⟨fun pins s j b h hcyc hchuck hb hj hdist he => ?_, fun pins s j m h hcyc hchuck hcap hj hdist => ?_⟩
  · intro engaged begun
    have hs := State.sighted_strobeScene h
    obtain ⟨hm, hg, ht, hd, hq, -, -⟩ := h
    have hlapse : s.advanceN.lapseChecks = s.advanceN :=
      State.lapseChecks_none _ (State.forall_track_single ht (Jar.notDue_of _ (by simp [hj])))
    have hvacate : s.advanceN.vacateChuck = s.advanceN :=
      State.vacateChuck_ready s.advanceN (by simp [hchuck]) (by simp [hchuck])
    have hjar : s.advanceN.jarToEngage? = some j := by
      have hat : s.advanceN.dist j.pitch = s.advanceN.cfg.entryOffset := hdist
      have ht' : s.advanceN.track = [j] := ht
      simp only [State.jarToEngage?, ht', List.find?_cons, Jar.isClaimed, hj, hat, decide_true, Bool.and_self]
    have hbegin : s.advanceN.beginCycle j = begun := by
      have hput := State.putJar_holds s.advanceN { j with st := .inChuck ⟨0, 0, none⟩ }
        (State.holds_single (t := s.advanceN) ht) rfl
      rw [State.beginCycle, hput]
      split
      · next b' hb' =>
        obtain rfl : b = b' := Option.some.inj (hb.symm.trans hb')
        rfl
      · next hnone => exact absurd (hb.symm.trans hnone) (by simp)
    have hengage : s.advanceN.engageOrFall pins = s.advanceN.engageStart j pins := by
      have hm' : s.advanceN.ctl.mode = .run := hm
      simp only [State.engageOrFall, hm', if_true, hjar]
    rw [exec_pitchStrobe s pins (State.inRun_of_run s hm), State.strobe_parts hs, hlapse, hvacate, hengage,
      State.engageStart, hbegin]
    refine ⟨fun hcapped hin => ?_, fun hcapped hin hretry => ?_, fun hcapped hin hretry => ?_, fun hcapped => ?_⟩
    · rw [hcapped, if_neg Bool.false_ne_true, hin, State.capCheck_found, State.work_quiet (by exact hq) (by exact hd),
        State.claimTest_single rfl (.inl rfl), State.stageWork_engage (p := j.pitch) rfl rfl (by exact hdist) (by exact he),
        State.finish_single rfl (by simp) (by exact hg)]
      rfl
    · rw [hcapped, if_neg Bool.false_ne_true, hin, State.capCheck_retry (by exact hretry),
        State.work_quiet (by exact hq) (by exact hd),
        State.claimTest_single rfl (.inl rfl), State.stageWork_engage (p := j.pitch) rfl rfl (by exact hdist) (by exact he),
        State.finish_single rfl (by simp) (by exact hg)]
      rfl
    · rw [hcapped, if_neg Bool.false_ne_true, hin,
        State.capCheck_noCap (t := begun) (m := ⟨0, 0, none⟩) rfl (by exact hq) rfl rfl (by exact hretry), State.work,
        State.dropStale_fresh (by simp [staleFrame]), State.endDraws_none _ (by exact hd),
        State.claimTest_single rfl (.inr (.inl (by exact hdist.ge))),
        State.rest_quiet rfl rfl (by simp [Jar.givenBack]) (by exact hg)]
      rfl
    · rw [hcapped, if_pos rfl, State.alreadyCapped,
        State.putJar_holds begun _ (State.holds_single (t := begun) rfl) (by rfl), State.earlyLift,
        State.work_quiet (by exact hq) (by exact hd),
        State.claimTest_single rfl (.inr (.inl (by exact hdist.ge))),
        State.rest_quiet rfl rfl (by simp [Jar.discard]) (by exact hg)]
      rfl
  · have hm := h.1
    have hs := State.sighted_strobeScene h
    obtain ⟨-, hg, ht, hd, hq, -, -⟩ := h
    have hstrobe := State.strobe_inChuck hs ht hd hq hj
      (State.vacateChuck_ready s.advanceN (by simp [hchuck]) (by simp [hchuck]))
    have hstage : s.tick.stageWork pins = s.tick.capCheck pins.capInChuck := by
      have hcyc' : s.tick.head.cyclePitch = some j.pitch := hcyc
      have hchuck' : s.tick.head.chuck = .engage := hchuck
      have hcap' : s.tick.head.capFound = false := hcap
      have hat : ¬ s.tick.dist j.pitch = s.tick.cfg.entryOffset := Nat.ne_of_gt hdist
      simp only [State.stageWork, hcyc', hchuck', hcap', Bool.false_eq_true, if_false, hat]
    rw [exec_pitchStrobe s pins (State.inRun_of_run s hm), hstrobe, hstage]
    refine ⟨fun hin => ?_, fun hin hretry => ?_, fun hin hretry => ?_⟩
    · rw [hin, State.capCheck_found, State.finish_single (by exact ht) (by simp [hj]) (by exact hg)]
      rfl
    · rw [hin, State.capCheck_retry (by exact hretry), State.finish_single (by exact ht) (by simp [hj]) (by exact hg)]
      rfl
    · rw [hin, State.capCheck_noCap (t := s.tick) (by exact ht) (by exact hq) (by exact hcyc) hj (by exact hretry),
        State.finish_single rfl (by simp [Jar.givenBack]) (by exact hg)]
      rfl

end Sys2Proof.Proofs
end


section
/-! PROOF. FLUSH start and the later stages of a cycle at a strobe (O8, O9). -/

namespace Sys2Proof.Machine

variable {s t : State} {j : Jar} {m : Measurements} {pins : StrobePins} {p : Word}

/-! ### The stage work of a strobe, by the stage (R105) -/

section Stages

variable (hc : t.head.cyclePitch = some p)
include hc

theorem State.stageWork_flushBegin (hk : t.head.chuck = .engage) (hf : t.head.capFound = true)
    (hd : t.dist p = flushBegin t.cfg t.head.plan) : t.stageWork pins = t.flushStart p := by
  simp only [State.stageWork, hc, hk, hf, hd, if_true]

theorem State.stageWork_flush (hk : t.head.chuck = .flush) (hd : t.dist p ≠ seatBegin t.cfg t.head.plan) :
    t.stageWork pins = t.valveFall := by
  simp only [State.stageWork, hc, hk, hd, if_false]

theorem State.stageWork_seatBegin (hk : t.head.chuck = .flush) (hd : t.dist p = seatBegin t.cfg t.head.plan) :
    t.stageWork pins = t.seatStart := by
  simp only [State.stageWork, hc, hk, hd, if_true]

theorem State.stageWork_driveBegin (hk : t.head.chuck = .seat) (hd : t.dist p = driveBegin t.cfg t.head.plan) :
    t.stageWork pins = t.driveStart := by
  simp only [State.stageWork, hc, hk, hd, if_true]

theorem State.stageWork_holdBegin (hk : t.head.chuck = .drive) (hd : t.dist p = holdBegin t.cfg t.head.plan) :
    t.stageWork pins = t.endDriveStage := by
  simp only [State.stageWork, hc, hk, hd, if_true]

theorem State.stageWork_liftBegin (hk : t.head.chuck = .hold) (hd : t.dist p = liftBegin t.cfg t.head.plan) :
    t.stageWork pins = t.holdEnd := by
  simp only [State.stageWork, hc, hk, hd, if_true]

/-- Between the strobes of its distances the head stands. -/
theorem State.stageWork_stands (h : (t.head.chuck = .seat ∧ t.dist p ≠ driveBegin t.cfg t.head.plan)
    ∨ (t.head.chuck = .drive ∧ t.dist p ≠ holdBegin t.cfg t.head.plan)
    ∨ (t.head.chuck = .hold ∧ t.dist p ≠ liftBegin t.cfg t.head.plan) ∨ t.head.chuck = .lift) :
    t.stageWork pins = t := by
  rcases h with ⟨hk, hd⟩ | ⟨hk, hd⟩ | ⟨hk, hd⟩ | hk
  · simp only [State.stageWork, hc, hk, hd, if_false]
  · simp only [State.stageWork, hc, hk, hd, if_false]
  · simp only [State.stageWork, hc, hk, hd, if_false]
  · simp only [State.stageWork, hc, hk]

end Stages

/-- A planned LIFT short of its end is not vacated (R119). -/
theorem State.vacateChuck_lift (hc : t.head.cyclePitch = some p) (hk : t.head.chuck = .lift)
    (hd : t.dist p ≠ cycleEnd t.cfg t.head.plan) : t.vacateChuck = t := by
  simp only [State.vacateChuck, hk, hc, hd, if_false]

/-- DRIVE start in the record's place (R114). -/
theorem State.driveStart_single (ht : t.track = [j]) (hc : t.head.cyclePitch = some j.pitch)
    (hj : j.st = .inChuck m) : t.driveStart = { t with
      track := [{ j with st := .inChuck { m with peak := 0, theta := 0 } }]
      head := { t.head with chuck := .drive, phase := .running, seatReached := false } } := by
  let begun : State := { t with head := { t.head with chuck := .drive, phase := .running, seatReached := false } }
  have hh : begun.holds [] j [] := State.holds_single ht
  have hchuck : t.chuckJar? = some (j, m) := State.chuckJar_holds t (State.holds_single ht) hc hj
  have hput := State.putJar_holds begun { j with st := .inChuck { m with peak := 0, theta := 0 } } hh rfl
  simp only [State.driveStart, hchuck]
  exact hput

/-- A strobe of a scene in which the stage work is all that it adds to the tick. -/
theorem State.exec_stage {u : State} {x : Jar} (h : s.strobeScene pins j) (hj : j.st = .inChuck m)
    (hv : s.advanceN.vacateChuck = s.advanceN) (hw : s.tick.stageWork pins = u) (hu : u.track = [x])
    (hx : ∀ m, x.st ≠ .probeWait m) (hc : u.cfg = s.cfg) : exec (.pitchStrobe pins) s = .next u := by
  have hs := State.sighted_strobeScene h
  obtain ⟨hm, hg, ht, hd, hq, -, -⟩ := h
  rw [exec_pitchStrobe s pins (State.inRun_of_run s hm), State.strobe_inChuck hs ht hd hq hj hv, hw,
    State.finish_single hu hx (hc ▸ hg)]

/-- Without gate role the gate stands at an own verdict. -/
theorem State.setOwnVerdict_gateless {v : Verdict} {ctr : Fin 30} (ht : t.track = [j]) (hq : t.line.queue = [])
    (hg : t.cfg.gateRole = false) (hv : ctrOwnVerdict? v = some ctr) :
    t.setOwnVerdict j v m = { t with
      track := [{ j with st := .done v (.station t.cfg.own) (dispositionOf t.cfg v j.nearFlag) (some m) }]
      line := { t.line with queue := [doneFrame j v (dispositionOf t.cfg v j.nearFlag) m] } }.count ctr := by
  rw [State.setOwnVerdict_single ht hq (by simp [hg]) hv, if_neg (by simp [hg])]

/-! ### FLUSH start (R112, R128 to R130) -/

/-- The draws other than the own one that count against S are those in progress: an ended one is not among
them (R126, R128, R131). -/
theorem State.drawsCounted_ended (s : State) : s.endDraws.drawsCounted = (s.steam.draws.filter (fun d =>
    (decide (distance s.clk.n d.start < d.length.toNat) || decide (distance s.clk.n d.start = 65535))
      && d.station != s.cfg.own)).length := by
  have hfilter : (s.steam.draws.filter (fun d => !d.endsAt s.clk.n)).filter
        (fun d => d.inProgress s.clk.n && d.station != s.cfg.own)
      = s.steam.draws.filter (fun d => d.inProgress s.clk.n && d.station != s.cfg.own) := by
    rw [List.filter_filter]
    refine List.filter_congr fun d _ => ?_
    have hlen := d.length.isLt
    have hnot : d.inProgress s.clk.n = true → d.endsAt s.clk.n = false := by
      rw [Draw.inProgress_iff, ← Bool.not_eq_true, Draw.endsAt_iff]
      omega
    cases hp : d.inProgress s.clk.n
    · rfl
    · rw [hnot hp]
      simp
  exact congrArg List.length hfilter

/-- FLUSH start decided: the own entry, the STEAM, the flush kind and the valve (R112, R130). -/
theorem State.flushStart_single (ht : t.track = [j]) (hq : t.line.queue = []) {short : Bool}
    (hshort : t.flushIsShort = short) :
    let len := drawLength t.head.plan.flush short
    let begun : State := { t with
      track := [{ j with flush := if short then .short else .full }]
      steam :=
        { draws := enterDraw ⟨t.cfg.own, t.clk.n, byteOf len⟩ t.steam.draws
          fullRun := if short then 0 else countTo 15 t.steam.fullRun
          shortHeard := if short then false else t.steam.shortHeard }
      line := { t.line with queue := [steamFrame t.clk.n (byteOf len) short] }
      head := { t.head with chuck := .flush, valveLeft := len } }
    t.flushStart j.pitch = if short then begun.count ctrShortFlushes else begun := by
  intro len begun
  have hupd (u : State) (hu : u.track = [j]) (f : Jar → Jar) : u.updJar j.pitch f = { u with track := [f j] } :=
    State.updJar_holds u f (State.holds_single hu)
  cases short
  · simp only [State.flushStart, State.decideFlush, hshort, Bool.false_eq_true, if_false]
    rw [State.enqueue_room _ _ (by simp [hq]), hupd _ (by exact ht)]
    simp only [hq, List.nil_append]
    rfl
  · simp only [State.flushStart, State.decideFlush, hshort, if_true]
    rw [State.enqueue_room _ _ (by simp [hq]), hupd _ (by exact ht)]
    simp only [hq, List.nil_append]
    rfl

theorem State.flushIsShort_iff : t.flushIsShort = true ↔ t.cfg.steamLimit ≤ t.drawsCounted
    ∨ (0 < t.cfg.fairness ∧ t.cfg.fairness ≤ t.steam.fullRun ∧ t.steam.shortHeard = true) := by
  simp only [State.flushIsShort, Bool.or_eq_true, Bool.and_eq_true, decide_eq_true_eq, and_assoc]

/-! ### The outputs (R107, R174) -/

theorem State.levels_run (h : t.ctl.mode = .run) : t.levels = match t.head.chuck with
    | .ready => (false, false, false)
    | .engage => (t.head.capFound, false, false)
    | .flush => (true, decide (0 < t.head.valveLeft), false)
    | .seat => (true, false, false)
    | .drive => (true, false, true)
    | .hold => (true, false, true)
    | .lift => (false, false, false)
    | .returning => (false, false, false) := by
  simp only [State.levels, State.chuckDn, State.steamV, State.spindle, h]
  cases t.head.chuck <;> simp

end Sys2Proof.Machine

namespace Sys2Proof.Proofs
open Sys2Proof.Machine

/-- Settles O8: in the scene the stage work is the FLUSH start, decided over the draws that have not ended. -/
theorem strobeStartsFlush : Obligations.StrobeStartsFlush := by
  intro pins s j m hm hg ht hq he hrd hcyc hchuck hcap hj hdist counted kept short full halved
  have hs : s.sighted pins = s.advanceN :=
    State.sighted_quiet (by simp [hg]) he (State.forall_track_single ht hrd)
  let t : State := s.tick.endDraws
  have htick : s.strobe pins = s.tick.work pins :=
    State.strobe_tick hs ht (Jar.notDue_of _ (by simp [hj]))
      (State.vacateChuck_ready s.advanceN (by simp [hchuck]) (by simp [hchuck])) (by simp [Jar.isClaimed, hj])
  have hwork : s.tick.work pins = ((t.flushStart j.pitch).probe pins).exitDecision := by
    rw [State.work, State.dropStale_nil s.tick hq,
      State.claimTest_single (t := t) ht (.inl (by simp [stateTest, hj])),
      State.stageWork_flushBegin (t := t) hcyc hchuck hcap hdist]
  have hshort : t.flushIsShort = true ↔ short := by
    rw [State.flushIsShort_iff, State.drawsCounted_ended]
    exact Iff.rfl
  have hmode : s.inRun = true := State.inRun_of_run s hm
  rw [exec_pitchStrobe s pins hmode, htick, hwork]
  have hkept : t.steam.draws.filter (fun d => d.station != s.cfg.own) = kept := by
    refine congrArg (List.filter _) (List.filter_congr fun d _ => ?_)
    rw [Draw.endsAt, ← decide_not]
    rfl
  refine ⟨fun hfull => ⟨?_, ?_⟩, fun hhalf => ⟨?_, ?_⟩⟩
  · have hflush := State.flushStart_single (t := t) (short := false) ht hq
      (Bool.not_eq_true _ ▸ mt hshort.mp hfull)
    simp only [Bool.false_eq_true, if_false, enterDraw] at hflush
    have heq : t.flushStart j.pitch = full := by
      rw [hflush]
      simp only [full, ← hkept]
      rfl
    rw [heq, State.finish_single rfl (by simp [hj]) (by exact hg)]
  · exact State.levels_run (t := full) hm
  · have hflush := State.flushStart_single (t := t) (short := true) ht hq (hshort.mpr hhalf)
    simp only [if_true, enterDraw] at hflush
    have heq : t.flushStart j.pitch = halved := by
      rw [hflush]
      simp only [halved, ← hkept]
      rfl
    rw [heq, State.finish_single rfl (by simp [hj]) (by exact hg)]
  · exact State.levels_run (t := halved) hm

/-- Settles O9, by the stage of the chuck and the distance of its jar. -/
theorem strobeRunsStages : Obligations.StrobeRunsStages := by
  refine ⟨fun t => ⟨State.levels_run, State.levels_safe, ?_⟩, fun pins s j m h hcyc hj => ?_⟩
  · simp only [State.faultLamp, Bool.or_eq_true, decide_eq_true_eq]
  · intro d overTq passes overJudged
    have hstage {u : State} (x : Jar) := State.exec_stage (u := u) (x := x) h hj
    obtain ⟨-, hg, ht, -, hq, -, -⟩ := h
    have hstays (c : Chuck) (hk : s.head.chuck = c) (hc : c ≠ .lift) (hc' : c ≠ .returning) :
        s.advanceN.vacateChuck = s.advanceN := State.vacateChuck_ready s.advanceN (hk ▸ hc) (hk ▸ hc')
    have hflush (hk : s.head.chuck = .flush) := hstays .flush hk (by decide) (by decide)
    have hseat (hk : s.head.chuck = .seat) := hstays .seat hk (by decide) (by decide)
    have hdrive (hk : s.head.chuck = .drive) := hstays .drive hk (by decide) (by decide)
    have hhold (hk : s.head.chuck = .hold) := hstays .hold hk (by decide) (by decide)
    have hh : s.tick.holds [] j [] := State.holds_single ht
    have hchuck : s.tick.chuckJar? = some (j, m) := State.chuckJar_holds s.tick hh hcyc hj
    have hset {v : Verdict} {ctr : Fin 30} (hv : ctrOwnVerdict? v = some ctr)
        (hdisp : dispositionOf s.cfg v j.nearFlag = .reject) : s.tick.setOwnVerdict j v m = { s.tick with
          track := [{ j with st := .done v (.station s.cfg.own) .reject (some m) }]
          line := { s.line with queue := [doneFrame j v .reject m] } }.count ctr := by
      rw [← hdisp]
      exact State.setOwnVerdict_gateless (t := s.tick) ht hq hg hv
    refine ⟨fun hk hd => ?_, fun hk hd => ?_, fun hk hd => ?_, fun hk hp hl hd => ?_, fun hk hp hd => ?_,
      fun hend => ?_, fun hstand => ?_⟩
    · exact hstage j (hflush hk) (State.stageWork_flush (t := s.tick) hcyc hk hd) ht (by simp [hj]) rfl
    · exact hstage j (hflush hk) (State.stageWork_seatBegin (t := s.tick) hcyc hk hd) ht (by simp [hj]) rfl
    · exact hstage _ (hseat hk) ((State.stageWork_driveBegin (t := s.tick) hcyc hk hd).trans
        (State.driveStart_single (t := s.tick) ht hcyc hj)) rfl (by simp) rfl
    · refine hstage j (hdrive hk) ((State.stageWork_holdBegin (t := s.tick) hcyc hk hd).trans ?_) ht (by simp [hj]) rfl
      exact (State.endDriveStage_ended (s := s.tick) hk (by exact hp ▸ by decide)).trans (if_neg (Nat.pos_iff_ne_zero.mp hl))
    · have hwork := State.stageWork_holdBegin (t := s.tick) (pins := pins) hcyc hk hd
      refine ⟨fun hpass hl => ?_, fun hpass hl hover => ?_, fun hpass => ?_⟩
      · exact hstage { j with nearFlag := true } (hdrive hk)
          (hwork.trans (State.endDriveStage_toHold hh hchuck hk hp hpass hl)) rfl (by simp [hj]) rfl
      · exact hstage { j with nearFlag := true } (hdrive hk)
          (hwork.trans (State.endDriveStage_toLift hh hcyc hj hk hp hpass hl hover)) rfl (by simp [hj]) rfl
      · refine hstage _ (hdrive hk) (hwork.trans ((State.endDriveStage_under hchuck hp hpass).trans ?_)) rfl (by simp) rfl
        rw [hset (v := .under) (ctr := 7) rfl rfl]
        rfl
    · have hwork : s.advanceN.vacateChuck = s.advanceN ∧ s.tick.stageWork pins = s.tick.holdEnd := by
        rcases hend with ⟨hk, hd⟩ | ⟨hk, hp, hl, hd⟩
        · exact ⟨hhold hk, State.stageWork_liftBegin (t := s.tick) hcyc hk hd⟩
        · exact ⟨hdrive hk, (State.stageWork_holdBegin (t := s.tick) hcyc hk hd).trans
            ((State.endDriveStage_ended (s := s.tick) hk (by exact hp ▸ by decide)).trans (if_pos hl))⟩
      obtain ⟨hv, hwork⟩ := hwork
      refine ⟨fun hover => ?_, fun hover hpass => ?_, fun hover hpass => ?_⟩
      · exact hstage j hv (hwork.trans (State.holdEnd_ok hchuck hover)) ht (by simp [hj]) rfl
      · exact hstage { j with overFlag := true } hv (hwork.trans (State.holdEnd_pass hchuck hh hover hpass)) rfl
          (by simp [hj]) rfl
      · refine hstage _ hv (hwork.trans ((State.holdEnd_over hchuck hover hpass).trans ?_)) rfl (by simp) rfl
        rw [hset (v := .overTorque) (ctr := 8) rfl rfl]
        rfl
    · rcases hstand with ⟨hk, hd⟩ | ⟨hk, hd⟩ | ⟨hk, hd⟩ | ⟨hk, hd⟩
      · exact hstage j (hseat hk) (State.stageWork_stands (t := s.tick) hcyc (.inl ⟨hk, hd⟩)) ht (by simp [hj]) rfl
      · exact hstage j (hdrive hk) (State.stageWork_stands (t := s.tick) hcyc (.inr (.inl ⟨hk, hd⟩))) ht
          (by simp [hj]) rfl
      · exact hstage j (hhold hk) (State.stageWork_stands (t := s.tick) hcyc (.inr (.inr (.inl ⟨hk, hd⟩)))) ht
          (by simp [hj]) rfl
      · exact hstage j (State.vacateChuck_lift (t := s.advanceN) hcyc hk hd)
          (State.stageWork_stands (t := s.tick) hcyc (.inr (.inr (.inr hk)))) ht (by simp [hj]) rfl

end Sys2Proof.Proofs
end


section
/-! PROOF. The end of a cycle and the probe at a strobe (O10, O11). -/

namespace Sys2Proof.Machine

variable {s t u : State} {j x : Jar} {m : Measurements} {pins : StrobePins} {p : Word}

/-! ### The chuck vacated (R106, R119, R120) -/

theorem Jar.with_st {st : JarState} (h : j.st = st) : { j with st := st } = j := by rw [← h]

/-- The planned end of LIFT: the record to PROBE_WAIT, the chuck to the pick position (R119). -/
theorem State.vacateChuck_planned (ht : t.track = [j]) (hk : t.head.chuck = .lift)
    (hc : t.head.cyclePitch = some j.pitch) (hj : j.st = .inChuck m)
    (hd : t.dist j.pitch = cycleEnd t.cfg t.head.plan) : t.vacateChuck = { t with
      track := [{ j with st := .probeWait m }], head := t.head.atPick t.cfg.returnPitches } := by
  have hh := State.holds_single ht
  have hput := State.putJar_holds t { j with st := .probeWait m } hh rfl
  simp only [State.vacateChuck, hk, hc, hd, if_true, State.endLift, State.chuckJar_holds t hh hc hj, hput,
    State.toPick_eq]
  rfl

/-- An early LIFT ends at the next strobe (R106, R119). -/
theorem State.vacateChuck_early (hk : t.head.chuck = .lift) (hc : t.head.cyclePitch = none) :
    t.vacateChuck = { t with head := t.head.atPick t.cfg.returnPitches } := by
  simp only [State.vacateChuck, hk, hc, State.endLift, State.chuckJar_none t hc, State.toPick_eq]

/-- A strobe of RETURNING takes one of its pitches (R120). -/
theorem State.vacateChuck_returning {left : Nat} (hk : t.head.chuck = .returning)
    (hl : t.head.returnLeft = left + 1) : t.vacateChuck = { t with head := { t.head with
      returnLeft := left, chuck := if left = 0 then .ready else .returning } } := by
  have hzero : left + 1 ≤ 1 ↔ left = 0 := by omega
  simp only [State.vacateChuck, hk, State.returnStep, hl, Nat.add_sub_cancel, hzero]

/-- With the chuck vacated and no jar to claim or engage, a strobe goes from the probe on. -/
theorem State.strobe_vacated (h : s.headScene pins j) (hdue : j.dueAt (s.clk.n + 1) = false)
    (hv : s.advanceN.vacateChuck = u) (hu : u.track = [x]) (hc : u.head.cyclePitch = none)
    (hline : u.line = s.line) (hsteam : u.steam = s.steam) (hx : x.isClaimed = false)
    (hclaim : stateTest x = false ∨ u.cfg.entryOffset ≤ u.dist x.pitch) :
    s.strobe pins = (State.probe pins { u with claims := { u.claims with busy := u.claims.busy - 1 } }).exitDecision := by
  have hs := State.sighted_headScene h
  obtain ⟨-, -, ht, hd, hq, -, -⟩ := h
  have hlapse : s.advanceN.lapseChecks = s.advanceN :=
    State.lapseChecks_none _ (State.forall_track_single ht hdue)
  rw [State.strobe_parts hs, hlapse, hv, State.engageOrFall_single hu hx,
    State.work_quiet (by exact hline ▸ hq) (by exact hsteam ▸ hd),
    State.claimTest_single (by exact hu) (by exact hclaim.imp_right .inl), State.stageWork_none _ _ (by exact hc)]

/-! ### The probe (R121, R144) -/

theorem State.probe_at (ht : t.track = [j]) (hj : j.st = .probeWait m) (hd : t.dist j.pitch = t.cfg.probeDistance) :
    t.probe pins = t.setOwnVerdict j (probeVerdict t.cfg j.flush pins.rim pins.panel)
      { m with probe := some ⟨pins.rim, pins.panel, deflectionOf pins.rim pins.panel⟩ } := by
  have hat : t.jarAtProbe? = some j := by
    simp only [State.jarAtProbe?, ht, List.find?_cons, hj, hd, decide_true, Bool.and_self]
  simp only [State.probe, hat, hj]

/-- A reading at a rail, 0 or 4095 (R144). -/
theorem probeRail_iff (x : Micron) : probeRail x = true ↔ x.toNat = 0 ∨ x.toNat = 4095 := by
  have hzero : x = 0 ↔ x.toNat = 0 := BitVec.toNat_inj.symm
  have htop : x = 4095 ↔ x.toNat = 4095 := BitVec.toNat_inj.symm
  rw [probeRail, Bool.or_eq_true, beq_iff_eq, beq_iff_eq, hzero, htop]

theorem deflectionOf_rail {r q : Micron}
    (h : r.toNat = 0 ∨ r.toNat = 4095 ∨ q.toNat = 0 ∨ q.toNat = 4095) : deflectionOf r q = none := by
  refine if_pos ?_
  rw [Bool.or_eq_true, probeRail_iff, probeRail_iff]
  tauto

/-- Off the rails the deflection is the difference of the readings, 0 at the least (R144). -/
theorem deflectionOf_read {r q : Micron}
    (h : ¬ (r.toNat = 0 ∨ r.toNat = 4095 ∨ q.toNat = 0 ∨ q.toNat = 4095)) :
    deflectionOf r q = some (BitVec.ofNat 12 (r.toNat - q.toNat)) := by
  have hrail : ¬ (probeRail r || probeRail q) = true := by
    rw [Bool.or_eq_true, probeRail_iff, probeRail_iff]
    tauto
  have hr := r.isLt
  refine (if_neg hrail).trans ?_
  by_cases hlt : q.toNat < r.toNat
  · rw [if_pos hlt]
    refine congrArg some (BitVec.eq_of_toNat_eq ?_)
    rw [BitVec.toNat_sub_of_le (BitVec.le_def.mpr hlt.le), BitVec.toNat_ofNat]
    omega
  · rw [if_neg hlt, Nat.sub_eq_zero_of_le (Nat.not_lt.mp hlt)]
    rfl

theorem requirement_eq (i : Image) (f : FlushKind) :
    requirement i f = if f = .short then i.deflectShort else i.deflectFull := by
  cases f <;> rfl

theorem probeVerdict_rail {i : Image} {f : FlushKind} {r q : Micron}
    (h : r.toNat = 0 ∨ r.toNat = 4095 ∨ q.toNat = 0 ∨ q.toNat = 4095) : probeVerdict i f r q = .unchecked := by
  simp only [probeVerdict, deflectionOf_rail h]

/-- Off the rails the verdict is by the deflection against its requirement, and by the dome margin (R144). -/
theorem probeVerdict_read {i : Image} {f : FlushKind} {r q : Micron}
    (h : ¬ (r.toNat = 0 ∨ r.toNat = 4095 ∨ q.toNat = 0 ∨ q.toNat = 4095)) :
    probeVerdict i f r q = if (if f = .short then i.deflectShort else i.deflectFull) ≤ r.toNat - q.toNat then .good
      else if r.toNat + i.domeMargin < q.toNat then .domed else .lowVac := by
  have hr := r.isLt
  have hval : (BitVec.ofNat 12 (r.toNat - q.toNat)).toNat = r.toNat - q.toNat := by
    rw [BitVec.toNat_ofNat]
    omega
  simp only [probeVerdict, deflectionOf_read h, requirement_eq, hval]

/-- The flags of a DONE stand beside its code (R148). -/
theorem doneByte_eq (code : Fin 16) (reject near torque short : Bool) :
    byteOf code.val ||| flagBit 4 reject ||| flagBit 5 near ||| flagBit 6 torque ||| flagBit 7 short
      = BitVec.ofNat 8 (code.val + (if reject = true then 16 else 0) + (if near = true then 32 else 0)
        + (if torque = true then 64 else 0) + (if short = true then 128 else 0)) := by
  revert code reject near torque short
  decide

theorem doneFrame_payA (j : Jar) (v : Verdict) (disp : Disposition) (m : Measurements) :
    (doneFrame j v disp m).payA = BitVec.ofNat 8 (v.code + (if disp = Disposition.reject then 16 else 0)
      + (if j.nearFlag = true then 32 else 0) + (if j.overFlag = true then 64 else 0)
      + (if j.flush = .short then 128 else 0)) := by
  have hcode : v.code < 16 := by cases v <;> decide
  refine (doneByte_eq ⟨v.code, hcode⟩ (disp == .reject) j.nearFlag j.overFlag (j.flush == .short)).trans ?_
  simp only [beq_iff_eq]

/-- The probe's verdict on the one record of a scene, with the reject handed to an empty gate queue. -/
theorem State.probe_single_judged {v : Verdict} {ctr : Fin 30} (ht : t.track = [j]) (hj : j.st = .probeWait m)
    (hd : t.dist j.pitch = t.cfg.probeDistance) (hq : t.line.queue = [])
    (hg : t.cfg.gateRole = true → t.gate = ⟨[], false, .pass⟩)
    (hv : probeVerdict t.cfg j.flush pins.rim pins.panel = v) (hctr : ctrOwnVerdict? v = some ctr) :
    let disp := dispositionOf t.cfg v j.nearFlag
    let read : Measurements := { m with probe := some ⟨pins.rim, pins.panel, deflectionOf pins.rim pins.panel⟩ }
    (t.probe pins).exitDecision = { t with
      track := [{ j with st := .done v (.station t.cfg.own) disp (some read) }]
      line := { t.line with queue := [doneFrame j v disp read] }
      gate := if t.cfg.gateRole = true ∧ disp = Disposition.reject then ⟨[⟨j.pitch, v⟩], false, .pass⟩ else t.gate
      }.count ctr := by
  intro disp read
  rw [State.probe_at ht hj hd, hv, State.setOwnVerdict_single ht hq hg hctr]
  exact State.exitDecision_single rfl (.inl rfl)

end Sys2Proof.Machine

namespace Sys2Proof.Proofs
open Sys2Proof.Machine

/-- Settles O10, by what the strobe finds of the chuck: a LIFT that ends, planned or early, or a RETURNING. -/
theorem strobeEndsCycle : Obligations.StrobeEndsCycle := by
  intro pins s j h hexit
  have hscene := h
  obtain ⟨hr, hg, ht, hd, hq, he, hrd⟩ := h
  have hfin (u : State) (x : Jar) (hu : u.track = [x]) (hcfg : u.cfg = s.cfg) (hdist : u.dist x.pitch = distance (s.clk.n + 1) j.pitch)
      (hx : u.dist x.pitch = u.cfg.probeDistance → ∀ m, x.st ≠ .probeWait m) : (u.probe pins).exitDecision = u := by
    rw [State.probe_single hu hx]
    refine State.exitDecision_single hu (.inr ?_)
    rw [hcfg, hdist]
    exact hexit
  rw [exec_pitchStrobe s pins hr]
  refine ⟨fun m hk hc hj hend hprobe => ?_, fun hk hc hj hat => ?_, fun left hk hc hl hj hat => ?_⟩
  · rw [State.strobe_vacated hscene (Jar.notDue_of _ (by simp [hj]))
      (State.vacateChuck_planned (t := s.advanceN) ht hk hc hj hend) rfl rfl rfl rfl rfl (.inl rfl)]
    refine congrArg Host.Outcome.next (hfin _ _ rfl rfl rfl fun hdist => ?_)
    exact absurd (hend.symm.trans hdist) (Nat.ne_of_lt hprobe)
  · rw [State.strobe_vacated hscene (Jar.notDue_of _ (by simp [hj]))
      (State.vacateChuck_early (t := s.advanceN) hk hc) ht rfl rfl rfl (by simp [Jar.isClaimed, hj]) (.inr hat)]
    exact congrArg Host.Outcome.next (hfin _ j ht rfl rfl fun _ => by simp [hj])
  · rw [State.strobe_vacated hscene (Jar.notDue_of _ (by simp [hj]))
      (State.vacateChuck_returning (t := s.advanceN) hk hl) ht hc rfl rfl (by simp [Jar.isClaimed, hj]) (.inr hat)]
    exact congrArg Host.Outcome.next (hfin _ j ht rfl rfl fun _ => by simp [hj])

/-- Settles O11: whatever the strobe finds of the chuck, the record waits at the probe when it comes to it. -/
theorem strobeProbes : Obligations.StrobeProbes := by
  refine ⟨fun j v disp m => ?_, fun pins s j m h hscene hdist hchuck => ?_⟩
  · intro code
    have hcode : code = v.code := by cases v <;> rfl
    refine ⟨hcode.symm, ?_⟩
    rw [hcode, ← doneFrame_payA j v disp m]
    obtain ⟨peak, theta, _ | ⟨r, q, _ | d⟩⟩ := m <;> rfl
  · let waits : State := { s.tick with track := [{ j with st := .probeWait m }], head := h }
    have hstrobe : s.strobe pins = (waits.probe pins).exitDecision := by
      have ht := hscene.2.2.1
      rcases hchuck with ⟨hj, hc, hk, rfl⟩ | ⟨hj, hc, hk, rfl⟩ | ⟨left, hj, hc, hk, hl, rfl⟩ | ⟨hj, hc, hk, hend, rfl⟩
      · rw [State.strobe_vacated hscene (Jar.notDue_of _ (by simp [hj]))
          (State.vacateChuck_ready s.advanceN (by simp [hk]) (by simp [hk])) ht hc rfl rfl (by simp [Jar.isClaimed, hj])
          (.inl (by simp [stateTest, hj]))]
        simp only [waits, Jar.with_st hj, ← ht]
        rfl
      · rw [State.strobe_vacated hscene (Jar.notDue_of _ (by simp [hj]))
          (State.vacateChuck_early (t := s.advanceN) hk hc) ht rfl rfl rfl (by simp [Jar.isClaimed, hj])
          (.inl (by simp [stateTest, hj]))]
        simp only [waits, Jar.with_st hj, ← ht]
        rfl
      · rw [State.strobe_vacated hscene (Jar.notDue_of _ (by simp [hj]))
          (State.vacateChuck_returning (t := s.advanceN) hk hl) ht hc rfl rfl (by simp [Jar.isClaimed, hj])
          (.inl (by simp [stateTest, hj]))]
        simp only [waits, Jar.with_st hj, ← ht]
        rfl
      · rw [State.strobe_vacated hscene (Jar.notDue_of _ (by simp [hj]))
          (State.vacateChuck_planned (t := s.advanceN) ht hk hc hj (hdist.trans hend.symm)) rfl rfl rfl rfl rfl (.inl rfl)]
        rfl
    obtain ⟨hr, hg, -, -, hq, -, -⟩ := hscene
    intro r q rail required read judged
    have hjudged (v : Verdict) (ctr : Fin 30) (hctr : ctrOwnVerdict? v = some ctr)
        (hv : probeVerdict s.cfg j.flush pins.rim pins.panel = v) : exec (.pitchStrobe pins) s
          = .next (judged v (dispositionOf s.cfg v j.nearFlag) ctr (deflectionOf pins.rim pins.panel)) := by
      rw [exec_pitchStrobe s pins hr, hstrobe]
      exact congrArg Host.Outcome.next
        (State.probe_single_judged (t := waits) (j := { j with st := .probeWait m }) (m := m) rfl rfl hdist hq hg hv hctr)
    refine ⟨fun hrail => ?_, fun hread hge => ?_, fun hread hlt hdome => ?_, fun hread hlt hflat => ?_⟩
    · rw [hjudged .unchecked 11 rfl (probeVerdict_rail hrail), deflectionOf_rail hrail]
      rfl
    · have hv : probeVerdict s.cfg j.flush pins.rim pins.panel = .good := (probeVerdict_read hread).trans (if_pos hge)
      rw [hjudged .good 4 rfl hv, deflectionOf_read hread]
      simp only [dispositionOf, Bool.and_eq_true]
      rfl
    · have hv : probeVerdict s.cfg j.flush pins.rim pins.panel = .domed :=
        (probeVerdict_read hread).trans ((if_neg (Nat.not_le.mpr hlt)).trans (if_pos hdome))
      have hzero : r - q = 0 := by omega
      rw [hjudged .domed 6 rfl hv, deflectionOf_read hread]
      exact congrArg (fun d => Host.Outcome.next (judged .domed .reject 6 (some (BitVec.ofNat 12 d)))) hzero
    · have hv : probeVerdict s.cfg j.flush pins.rim pins.panel = .lowVac :=
        (probeVerdict_read hread).trans ((if_neg (Nat.not_le.mpr hlt)).trans (if_neg (Nat.not_lt.mpr hflat)))
      rw [hjudged .lowVac 5 rfl hv, deflectionOf_read hread]
      rfl

end Sys2Proof.Proofs
end


section
/-! PROOF. Lapses and gate duty at a strobe (O12, and the lapses of O14). -/

namespace Sys2Proof.Machine

variable {s t : State} {j : Jar} {m : Measurements} {pins : StrobePins} {k : Station} {promise : Word}

/-! ### A promise that falls due (R58, R59, R76) -/

/-- The claimant of a lapse, one lapse on; PARKED with an empty refresh set at the park limit (R76). -/
def Peer.lapsed (limit : Nat) (p : Peer) : Peer :=
  if p.lapses + 1 = limit then { p with st := .parked 0, lapses := p.lapses + 1 }
  else { p with lapses := p.lapses + 1 }

theorem Peer.lapsed_once {limit : Nat} {p : Peer} (h : p.lapses + 1 ≠ limit) :
    p.lapsed limit = { p with lapses := p.lapses + 1 } := if_neg h

theorem Peer.lapsed_parks {limit : Nat} {p : Peer} (h : p.lapses + 1 = limit) :
    p.lapsed limit = { p with st := .parked 0, lapses := p.lapses + 1 } := if_pos h

theorem holdsReopened_open {l : List Jar} (h : ∀ x ∈ l, x.heldBy k = false) : holdsReopened k l = l := by
  rw [holdsReopened, List.map_congr_left (g := id), List.map_id]
  intro x hx
  rw [if_neg (by simp [h x hx])]
  rfl

/-- A lapse reported against a LIVE claimant that holds no other record moves its peer record alone (R76). -/
theorem State.reportLapse_alone (hl : (t.peer k).st = .live) (h : ∀ x ∈ t.track, x.heldBy k = false) :
    t.reportLapse k = t.putPeer k ((t.peer k).lapsed t.cfg.parkLimit) := by
  rw [State.reportLapse_live t k hl]
  by_cases hpark : (t.peer k).lapses + 1 = t.cfg.parkLimit
  · rw [if_pos hpark, State.setAside_eq, holdsReopened_open h, Peer.lapsed_parks hpark]
  · rw [if_neg hpark, Peer.lapsed_once hpark]

/-- The lapse of a due promise: the record reopens, and the lapse is counted and reported (R59). -/
theorem State.lapseOne_due {pre post : List Jar} (hh : t.holds pre j post) (hj : j.st = .heldPeer k promise true)
    (hp : promise = t.clk.n) : t.lapseOne j.pitch
      = ({ t with track := pre ++ j.reopen :: post }.count ctrLapses).reportLapse k := by
  have hdue : j.dueAt t.clk.n = true := (Jar.dueAt_held hj).mpr ⟨rfl, hp⟩
  have hput := State.putJar_holds t j.reopen hh rfl
  simp only [State.lapseOne, State.findJar_holds t hh, hj, hdue, if_true, hput]

/-- A record that is not due lapses at no promise (R59). -/
theorem State.lapseOne_notDue {pre post : List Jar} (hh : t.holds pre j post) (h : j.dueAt t.clk.n = false) :
    t.lapseOne j.pitch = t := by
  unfold State.lapseOne
  rw [State.findJar_holds t hh]
  dsimp only
  split
  · rw [h, if_neg Bool.false_ne_true]
  all_goals rfl

theorem State.lapseChecks_due (ht : t.track = [j]) (hj : j.st = .heldPeer k promise true)
    (hp : promise = t.clk.n) (hl : (t.peer k).st = .live) :
    t.lapseChecks = ({ t with track := [j.reopen] }.count ctrLapses).putPeer k
      ((t.peer k).lapsed t.cfg.parkLimit) := by
  have hdue : j.dueAt t.clk.n = true := (Jar.dueAt_held hj).mpr ⟨rfl, hp⟩
  have hcheck : t.lapseChecks = t.lapseOne j.pitch := by
    simp only [State.lapseChecks, ht, List.filter_cons, hdue, if_true, List.filter_nil, List.map_cons, List.map_nil,
      List.foldl_cons, List.foldl_nil]
  rw [hcheck, State.lapseOne_due (State.holds_single ht) hj hp]
  exact State.reportLapse_alone (t := State.count ctrLapses { t with track := [j.reopen] }) hl (by simp [Jar.reopen, Jar.heldBy])

/-- The state of a strobe in which the one promise has lapsed (R59). -/
def State.tickLapsed (s : State) (j : Jar) (k : Station) : State :=
  ({ s.tick with track := [j.reopen] }.count ctrLapses).putPeer k ((s.peer k).lapsed s.cfg.parkLimit)

theorem State.strobe_lapsed (hs : s.sighted pins = s.advanceN) (ht : s.track = [j])
    (hj : j.st = .heldPeer k promise true) (hp : promise = s.clk.n + 1) (hl : (s.peer k).st = .live)
    (hc : s.head.chuck = .ready) : s.strobe pins = (s.tickLapsed j k).work pins := by
  have hready : (s.advanceN.lapseChecks).vacateChuck = s.advanceN.lapseChecks := by
    rw [State.lapseChecks_due (t := s.advanceN) ht hj hp hl]
    exact State.vacateChuck_ready _ (by simp [hc]) (by simp [hc])
  rw [State.strobe_parts hs, hready, State.lapseChecks_due (t := s.advanceN) ht hj hp hl,
    State.engageOrFall_single (j := j.reopen) rfl rfl]
  rfl

/-! ### The exit decision (R155) -/

/-- A record at X that is not DONE becomes UNCAPPED, is counted, and joins an empty gate queue (R155, R157). -/
theorem State.exitDecision_uncaps (ht : t.track = [j]) (hg : t.cfg.gateRole = true)
    (hq : t.gate = ⟨[], false, .pass⟩) (hd : t.dist j.pitch = t.cfg.bankExit) (hj : j.isDone = false) :
    t.exitDecision = { t with
      track := [{ j with st := .done .uncapped .gate .reject none }]
      gate := ⟨[⟨j.pitch, .uncapped⟩], false, .pass⟩ }.count ctrUncapped := by
  have hput := State.putJar_holds t { j with st := .done .uncapped .gate .reject none } (State.holds_single ht) rfl
  simp only [State.exitDecision, hg, if_true, ht, List.find?_cons, hd, decide_true, hj, Bool.false_eq_true, if_false,
    hput]
  rw [State.gateInsert_room _ (by simp [hq]) (by simp [hq])]
  simp only [State.count_gate, hq, gatePlace]
  rfl

theorem State.exitDecision_empty (ht : t.track = []) : t.exitDecision = t := by
  simp only [State.exitDecision, ht, List.find?_nil, ite_self]

/-- With the chuck empty and no record at the probe, the work of a strobe is the exit decision. -/
theorem State.work_exit (hq : t.line.queue = []) (hd : t.steam.draws = []) (ht : t.track = [j])
    (hc : t.head.cyclePitch = none) (he : stateTest j = false ∨ t.cfg.entryOffset ≤ t.dist j.pitch)
    (hp : ∀ m, j.st ≠ .probeWait m) : t.work pins = t.exitDecision := by
  rw [State.work_quiet hq hd, State.claimTest_single ht (he.imp_right .inl), State.stageWork_none _ _ hc,
    State.probe_single ht fun _ => hp]

/-! ### The gate decision (R159) -/

theorem State.gateDecision_reject {g : Gate} (hg : t.cfg.gateRole = true)
    (h : t.gate.decide t.cfg t.clk.n = g) (ho : g.output = .reject) :
    t.gateDecision = State.count ctrGateRejects { t with gate := g } := by
  simp only [State.gateDecision, hg, if_true, h, ho]

theorem State.gateDecision_pass {g : Gate} (hg : t.cfg.gateRole = true)
    (h : t.gate.decide t.cfg t.clk.n = g) (ho : g.output = .pass) : t.gateDecision = { t with gate := g } := by
  simp only [State.gateDecision, hg, if_true, h, ho]

/-- With no record a strobe is the tick, and the gate decision before it. -/
theorem State.strobe_empty (ht : s.track = []) (hd : s.steam.draws = []) (hq : s.line.queue = [])
    (he : pins.eye = false) (hk : s.head.chuck = .ready) (hc : s.head.cyclePitch = none) :
    s.strobe pins = { s.advanceN.gateDecision with
      claims := { s.claims with busy := s.claims.busy - 1 } } := by
  have hframe := s.advanceN.gateDecision_frame
  generalize s.advanceN.gateDecision.gate = gate at hframe
  generalize s.advanceN.gateDecision.counters = counters at hframe
  have hsight : s.sighted pins = { s.advanceN with gate := gate, counters := counters } := by
    rw [State.sighted, hframe]
    exact State.ageTrack_none _ pins he (by simp [ht])
  have hstrobe : s.strobe pins = (((s.sighted pins).lapseChecks.vacateChuck).engageOrFall pins).work pins := rfl
  rw [hstrobe, hsight, hframe, State.lapseChecks_none _ (by simp [ht]),
    State.vacateChuck_ready _ (by simp [hk]) (by simp [hk]),
    State.engageOrFall_none _ _ fun _ => State.jarToEngage_none _ (by simp [ht]),
    State.work_quiet (by exact hq) (by exact hd), State.claimTest_none _ (by simp [ht]),
    State.stageWork_none _ _ (by exact hc), State.probe_none _ _ (by simp [ht]), State.exitDecision_empty (by exact ht)]
  rfl

/-- The verdicts of the probe: each has its counter, and none of them is UNCAPPED's (R144, R147). -/
theorem probeVerdict_counted (i : Image) (f : FlushKind) (r q : Micron) : probeVerdict i f r q ≠ .uncapped
    ∧ ∃ ctr : Fin 30, ctrOwnVerdict? (probeVerdict i f r q) = some ctr ∧ ctr ≠ ctrUncapped := by
  have hcounted (v : Verdict) (ctr : Fin 30) (hv : v ≠ .uncapped) (h : ctrOwnVerdict? v = some ctr)
      (hc : ctr ≠ ctrUncapped) : v ≠ .uncapped ∧ ∃ ctr : Fin 30, ctrOwnVerdict? v = some ctr ∧ ctr ≠ ctrUncapped :=
    ⟨hv, ctr, h, hc⟩
  unfold probeVerdict
  split
  · exact hcounted .unchecked 11 (by decide) rfl (by decide)
  · split
    · exact hcounted .good 4 (by decide) rfl (by decide)
    · split
      · exact hcounted .domed 6 (by decide) rfl (by decide)
      · exact hcounted .lowVac 5 (by decide) rfl (by decide)

end Sys2Proof.Machine

namespace Sys2Proof.Proofs
open Sys2Proof.Machine

/-- The exit decision's share of O12: the record at X, after the lapse of its promise where that falls due. -/
theorem strobe_decides_exit (pins : StrobePins) (s : State) (j : Jar) (hr : s.inRun = true)
    (hg : s.cfg.gateRole = true) (ht : s.track = [j]) (hd : s.steam.draws = []) (hq : s.line.queue = [])
    (he : pins.eye = false) (hk : s.head.chuck = .ready) (hc : s.head.cyclePitch = none)
    (hgate : s.gate = ⟨[], false, .pass⟩) (hx : distance (s.clk.n + 1) j.pitch = s.cfg.bankExit)
    (hentry : s.cfg.entryOffset < s.cfg.bankExit) :
    let uncapped : State :=
      { s.tick with
        track := [{ j with st := .done .uncapped .gate .reject none }]
        gate := ⟨[⟨j.pitch, .uncapped⟩], false, .pass⟩ }
    let lapsed : State :=
      { uncapped with
        track := [{ j with st := .done .uncapped .gate .reject none, reopened := true }] }.count ctrLapses
    (j.dueAt (s.clk.n + 1) = false → j.isClaimed = false → (∀ m, j.st ≠ .probeWait m) →
      (j.isDone = false → exec (.pitchStrobe pins) s = .next (uncapped.count ctrUncapped))
      ∧ (j.isDone = true → exec (.pitchStrobe pins) s = .next s.tick))
    ∧ (∀ (k : Station) (promise : Word), j.st = .heldPeer k promise true → promise = s.clk.n + 1 →
        (s.peer k).st = .live → exec (.pitchStrobe pins) s
          = .next ((lapsed.count ctrUncapped).putPeer k ((s.peer k).lapsed s.cfg.parkLimit))) := by
  have hs : s.sighted pins = s.advanceN := by
    refine State.sighted_quiet (fun _ => hgate) he (State.forall_track_single ht ?_)
    rw [Image.retireDistance, if_pos hg, hx]
    exact Nat.lt_succ_self _
  have hlow : s.cfg.entryOffset ≤ distance (s.clk.n + 1) j.pitch := hx ▸ hentry.le
  intro uncapped lapsed
  rw [exec_pitchStrobe s pins hr]
  refine ⟨fun hdue hst hp => ?_, fun k promise hst hpromise hl => ?_⟩
  · rw [State.strobe_tick hs ht hdue (State.vacateChuck_ready s.advanceN (by simp [hk]) (by simp [hk])) hst,
      State.work_exit (t := s.tick) hq hd ht hc (.inr hlow) hp]
    refine ⟨fun hj => ?_, fun hj => ?_⟩
    · rw [State.exitDecision_uncaps (t := s.tick) ht hg hgate hx hj]
    · rw [State.exitDecision_single (t := s.tick) ht (.inl hj)]
  · rw [State.strobe_lapsed hs ht hst hpromise hl hk,
      State.work_exit (t := s.tickLapsed j k) (j := j.reopen) hq hd rfl hc (.inr hlow) (by simp [Jar.reopen]),
      State.exitDecision_uncaps (t := s.tickLapsed j k) (j := j.reopen) rfl hg hgate hx rfl]
    rfl

/-- The probe's and the hold end's share of O12: a record judged at its distance is never UNCAPPED. -/
theorem strobe_judges_before_exit (pins : StrobePins) (s : State) (j : Jar) (m : Measurements)
    (h : s.headScene pins j) (hg : s.cfg.gateRole = true) :
    let d := distance (s.clk.n + 1) j.pitch
    (s.ctl.mode = .run → s.head.cyclePitch = some j.pitch → j.st = .inChuck m →
      (s.head.chuck = .hold ∧ d = liftBegin s.cfg s.head.plan)
        ∨ (s.head.chuck = .drive ∧ s.head.phase = .ended ∧ s.head.plan.hold = 0
          ∧ d = holdBegin s.cfg s.head.plan) →
      s.head.entry.target.toNat + s.cfg.tolOver < m.peak.toNat → s.cfg.overPass = false →
      exec (.pitchStrobe pins) s
        = .next
            ({ s.tick with
              track := [{ j with st := .done .overTorque (.station s.cfg.own) .reject (some m) }]
              line := { s.line with queue := [doneFrame j .overTorque .reject m] }
              head := { s.head with chuck := .lift, cyclePitch := none, valveLeft := 0 }
              gate := ⟨[⟨j.pitch, .overTorque⟩], false, .pass⟩ }.count 8))
    ∧ (j.st = .probeWait m → s.head.cyclePitch = none → s.head.chuck = .ready →
      d = s.cfg.bankExit → s.cfg.bankExit = s.cfg.probeDistance →
      ∃ (t : State) (v : Verdict) (disp : Disposition) (m' : Measurements),
        exec (.pitchStrobe pins) s = .next t
          ∧ t.track = [{ j with st := .done v (.station s.cfg.own) disp (some m') }] ∧ v ≠ .uncapped
          ∧ t.counters.get ctrUncapped = s.counters.get ctrUncapped) := by
  have hs := State.sighted_headScene h
  have hscene := h
  obtain ⟨hr, hgate, ht, hd, hq, -, -⟩ := h
  intro d
  refine ⟨fun hm hc hj hend hover hpass => ?_, fun hj hc hk hx hprobe => ?_⟩
  · have hchuck := State.chuckJar_holds s.tick (State.holds_single (t := s.tick) ht) hc hj
    have hstage : s.advanceN.vacateChuck = s.advanceN ∧ s.tick.stageWork pins = s.tick.holdEnd := by
      rcases hend with ⟨hk, hd⟩ | ⟨hk, hp, hl, hd⟩
      · exact ⟨State.vacateChuck_ready s.advanceN (by simp [hk]) (by simp [hk]),
          State.stageWork_liftBegin (t := s.tick) hc hk hd⟩
      · exact ⟨State.vacateChuck_ready s.advanceN (by simp [hk]) (by simp [hk]),
          (State.stageWork_holdBegin (t := s.tick) hc hk hd).trans
            ((State.endDriveStage_ended (s := s.tick) hk (by exact hp ▸ by decide)).trans (if_pos hl))⟩
    obtain ⟨hv, hstage⟩ := hstage
    have hset := State.setOwnVerdict_single (t := s.tick) (m := m) (v := .overTorque) (ctr := 8) ht hq hgate rfl
    rw [exec_pitchStrobe s pins hr, State.strobe_inChuck hs ht hd hq hj hv, hstage,
      State.holdEnd_over (s := s.tick) hchuck hover hpass, hset, State.probe_single rfl (by simp),
      State.exitDecision_single rfl (.inl rfl)]
    have hrole : s.tick.cfg.gateRole = true ∧ dispositionOf s.tick.cfg .overTorque j.nearFlag = Disposition.reject :=
      ⟨hg, rfl⟩
    simp only [if_pos hrole]
    rfl
  · obtain ⟨hne, ctr, hctr, hother⟩ := probeVerdict_counted s.cfg j.flush pins.rim pins.panel
    have hjudged := State.probe_single_judged (t := s.tick) (pins := pins) ht hj (hx.trans hprobe) hq hgate rfl hctr
    have hstrobe := State.strobe_vacated hscene (Jar.notDue_of _ (by simp [hj]))
      (State.vacateChuck_ready s.advanceN (by simp [hk]) (by simp [hk])) ht hc rfl rfl (by simp [Jar.isClaimed, hj])
      (.inl (by simp [stateTest, hj]))
    refine ⟨_, _, _, _, (exec_pitchStrobe s pins hr).trans (congrArg Host.Outcome.next (hstrobe.trans hjudged)), rfl,
      hne, ?_⟩
    exact State.countBy_get_other _ ctr ctrUncapped 1 hother

/-- Settles O12: the exit decision, the verdicts that come before it, and the gate decision of an empty track. -/
theorem strobeGateDuty : Obligations.StrobeGateDuty := by
  refine ⟨fun pins s j hr hg ht hd hq he hk hc hgate hx hentry => ?_,
    fun pins s j m h hg => strobe_judges_before_exit pins s j m h hg,
    fun pins s hr ht hd hq he hk hc => ⟨fun e rest hg hgq hdue => ?_, fun hg hwait => ?_, fun hg => ?_⟩⟩
  · intro uncapped lapsed
    obtain ⟨hstays, hlapses⟩ := strobe_decides_exit pins s j hr hg ht hd hq he hk hc hgate hx hentry
    refine ⟨fun hj => ?_, fun k promise ahead hj => ⟨fun hnot => ?_, fun ha hp hl => ⟨fun hpark => ?_, fun hpark => ?_⟩⟩,
      fun hdone => ?_⟩
    · exact (hstays (Jar.notDue_of _ (by simp [hj])) (by simp [Jar.isClaimed, hj]) (by simp [hj])).1
        (by simp [Jar.isDone, hj])
    · have hdue : j.dueAt (s.clk.n + 1) = false := by
        rw [← Bool.not_eq_true, Jar.dueAt_held hj]
        exact hnot
      exact (hstays hdue (by simp [Jar.isClaimed, hj]) (by simp [hj])).1 (by simp [Jar.isDone, hj])
    · rw [hlapses k promise (ha ▸ hj) hp hl, Peer.lapsed_once hpark]
    · rw [hlapses k promise (ha ▸ hj) hp hl, Peer.lapsed_parks hpark]
    · have hst (st : JarState) (h : j.st = st) : ∃ v src disp m, st = .done v src disp m := by
        subst h
        unfold Jar.isDone at hdone
        split at hdone
        · next v src disp m hst => exact ⟨v, src, disp, m, hst⟩
        · cases hdone
      obtain ⟨v, src, disp, m, hj⟩ := hst j.st rfl
      exact (hstays (Jar.notDue_of _ (by simp [hj])) (by simp [Jar.isClaimed, hj]) (by simp [hj])).2 hdone
  · intro t
    have hdec := Gate.decide_due (i := s.cfg) (n := s.clk.n + 1) hgq (by simpa [GateEntry.dueAt] using hdue)
    have hstrobe : s.strobe pins = t := by
      rw [State.strobe_empty ht hd hq he hk hc, State.gateDecision_reject (t := s.advanceN) hg hdec rfl]
      have hflood : (s.gate.flood && !rest.isEmpty) = if rest = [] then false else s.gate.flood := by
        cases rest <;> simp
      rw [hflood]
      rfl
    refine ⟨by rw [exec_pitchStrobe s pins hr, hstrobe], if_pos ?_⟩
    have hin : t.inRun = true := hr
    have hrole : t.cfg.gateRole = true := hg
    rw [hin, hrole]
    rfl
  · intro at_
    have hpin (u : State) (hu : u.inRun = true) (hug : u.cfg.gateRole = true) : u.gatePin = u.gate.output := by
      rw [State.gatePin, hu, hug]
      rfl
    have hdec := Gate.decide_waiting (i := s.cfg) (n := s.clk.n + 1) (g := s.gate)
      (fun e he => by simpa [GateEntry.dueAt] using hwait e he)
    refine ⟨fun hflood hne => ⟨?_, hpin _ hr hg⟩, fun hflood => ⟨?_, hpin _ hr hg⟩⟩
    · have hshow : (s.gate.flood && !s.gate.queue.isEmpty) = true := by simp [hflood, hne]
      have hout : s.gate.decide s.cfg (s.clk.n + 1) = { s.gate with output := .reject } := by
        rw [hdec, hshow]
        dsimp only
        rw [hflood]
        rfl
      rw [exec_pitchStrobe s pins hr, State.strobe_empty ht hd hq he hk hc,
        State.gateDecision_reject (t := s.advanceN) hg hout rfl]
      rfl
    · have hshow : (s.gate.flood && !s.gate.queue.isEmpty) = false := by simp [hflood]
      have hout : s.gate.decide s.cfg (s.clk.n + 1) = { s.gate with output := .pass } := by
        rw [hdec, hshow]
        dsimp only
        rw [hflood]
        rfl
      rw [exec_pitchStrobe s pins hr, State.strobe_empty ht hd hq he hk hc,
        State.gateDecision_pass (t := s.advanceN) hg hout rfl]
      rfl
  · refine ⟨?_, if_neg ?_⟩
    · rw [exec_pitchStrobe s pins hr, State.strobe_empty ht hd hq he hk hc, State.gateDecision_none s.advanceN hg]
      rfl
    · have hrole : s.tick.cfg.gateRole = false := hg
      simp [hrole]

end Sys2Proof.Proofs
end


section
/-! PROOF. The occurrences that a strobe takes, as commands of their own and at the strobe (O14). -/

namespace Sys2Proof.Machine

variable {s t : State} {j : Jar} {pins : StrobePins} {k : Station} {promise : Word}

/-! ### The commands (log entry 8) -/

theorem stationNum_inj {p q : Station} : stationNum p = stationNum q ↔ p = q := by
  rw [stationNum, stationNum, Nat.add_right_cancel_iff, Fin.val_inj]

theorem exec_lapse_run (hr : s.inRun = true) (jar : Word) : exec (.lapse jar) s = .next (s.lapseOne jar) :=
  congrArg Host.Outcome.next (if_pos hr)

theorem State.lapseOne_lacks {jar : Word} (h : s.lacks jar) : s.lapseOne jar = s := by
  simp only [State.lapseOne, State.findJar_none s h]

/-- A record held for no peer is not due. -/
theorem Jar.notDue_unheld (n : Word) (h : ∀ k : Station, j.heldBy k = false) : j.dueAt n = false :=
  Jar.notDue_of n fun k p ahead hst => by simpa [Jar.heldBy, hst] using h k

/-- The draws that a DRAW_END leaves are all but the station's that has ended (R131). -/
theorem exec_drawEnd_run (hr : s.inRun = true) (k : Station) :
    exec (.drawEnd (senderCode k)) s = .next { s with steam := { s.steam with
      draws := s.steam.draws.filter (fun d => !(decide (d.station = k) && d.endsAt s.clk.n)) } } := by
  refine congrArg Host.Outcome.next ((if_pos hr).trans ?_)
  simp only [senderCode_toNat, stationNum_inj]

/-! ### The stale removals of a strobe (R98, R99) -/

/-- A frame that waits is stale at a strobe by its kind and its age at the new N. -/
theorem staleFrame_strobe (i : Image) (n : Word) : staleFrame i n = fun x : TxFrame =>
    (x.kind == .claim && decide (i.entryOffset ≤ (n - x.jar).toNat))
      || (x.kind == .steam && decide (x.payA.toNat ≤ (n - x.jar).toNat)) :=
  funext fun f => staleFrame_eq i n f

variable {f : TxFrame} {rest : List TxFrame}

theorem State.dropStale_idle (hq : t.line.queue = f :: rest) (hs : t.line.sending = none) :
    t.dropStale = { t with line := { t.line with
        queue := (f :: rest).filter (fun x => !staleFrame t.cfg t.clk.n x)
        retries := if staleFrame t.cfg t.clk.n f = true then 0 else t.line.retries } }.countBy ctrStaleRemovals
      ((f :: rest).filter (staleFrame t.cfg t.clk.n)).length := by
  have hwait : t.line.waiting = f :: rest := by simp only [BankLine.waiting, BankLine.headOnLine, hs, hq, Bool.false_eq_true, if_false]
  rw [State.dropStale, BankLine.removeWaiting_idle _ hq hs, hwait]

theorem State.dropStale_onLine {x : Sending} (hq : t.line.queue = f :: rest) (hs : t.line.sending = some x)
    (hx : x.detached = false) :
    t.dropStale = { t with line := { t.line with
        queue := f :: rest.filter (fun x => !staleFrame t.cfg t.clk.n x) } }.countBy ctrStaleRemovals
      (rest.filter (staleFrame t.cfg t.clk.n)).length := by
  have hwait : t.line.waiting = rest := by
    simp only [BankLine.waiting, BankLine.headOnLine, hs, hx, hq, Bool.not_false, if_true, List.tail_cons]
  rw [State.dropStale, BankLine.removeWaiting_onLine _ hq hs hx, hwait]

/-- With no record a strobe is the tick, the stale removals and the end of draws. -/
theorem State.strobe_stale (hg : s.cfg.gateRole = false) (ht : s.track = []) (he : pins.eye = false)
    (hk : s.head.chuck = .ready) (hc : s.head.cyclePitch = none) : s.strobe pins = s.tick.dropStale.endDraws := by
  have hs : s.sighted pins = s.advanceN := State.sighted_quiet (by simp [hg]) he (by simp [ht])
  have htrack : s.tick.dropStale.endDraws.track = [] := ht
  have htick : s.advanceN.engageOrFall pins = s.tick :=
    State.engageOrFall_none _ _ fun _ => State.jarToEngage_none _ (by simp [ht])
  rw [State.strobe_parts hs, State.lapseChecks_none _ (by simp [ht]),
    State.vacateChuck_ready _ (by simp [hk]) (by simp [hk]), htick, State.work,
    State.claimTest_none _ (fun j hj => absurd (htrack ▸ hj) List.not_mem_nil), State.stageWork_none _ _ (by exact hc),
    State.probe_none _ _ (fun j hj => absurd (htrack ▸ hj) List.not_mem_nil), State.exitDecision_empty htrack]

/-! ### A claimant parked at a strobe (R62, R76) -/

/-- Two records held by one claimant: the lapse that parks it reopens the other, with no lapse of its own (R62). -/
theorem State.lapseChecks_parks {j j' : Jar} {promise' : Word} {ahead : Bool} (ht : t.track = [j, j'])
    (hne : j.pitch ≠ j'.pitch) (hj : j.st = .heldPeer k promise true) (hp : promise = t.clk.n)
    (hj' : j'.st = .heldPeer k promise' ahead) (hl : (t.peer k).st = .live)
    (hpark : (t.peer k).lapses + 1 = t.cfg.parkLimit) :
    t.lapseChecks = ({ t with track := [j.reopen, j'.reopen] }.count ctrLapses).putPeer k
      { t.peer k with st := .parked 0, lapses := (t.peer k).lapses + 1 } := by
  have hh : t.holds [] j [j'] := ⟨ht, by simpa using hne.symm⟩
  have hfirst : t.lapseOne j.pitch = ({ t with track := [j.reopen, j'.reopen] }.count ctrLapses).putPeer k
      { t.peer k with st := .parked 0, lapses := (t.peer k).lapses + 1 } := by
    let reopened : State := { t with track := [j.reopen, j'] }.count ctrLapses
    have hheld : j'.heldBy k = true := by simp [Jar.heldBy, hj']
    have hopen : j.reopen.heldBy k = false := rfl
    have hholds : holdsReopened k [j.reopen, j'] = [j.reopen, j'.reopen] := by
      simp only [holdsReopened, List.map_cons, List.map_nil, hheld, hopen, if_true, Bool.false_eq_true, if_false]
      rfl
    have hreport : reopened.reportLapse k = reopened.setAside k { t.peer k with
        st := .parked 0, lapses := (t.peer k).lapses + 1 } := (State.reportLapse_live reopened k hl).trans (if_pos hpark)
    rw [State.lapseOne_due hh hj hp]
    refine hreport.trans ?_
    rw [State.setAside_eq]
    exact congrArg (fun l => State.putPeer k _ (State.count ctrLapses { t with track := l })) hholds
  have hdue : j.dueAt t.clk.n = true := (Jar.dueAt_held hj).mpr ⟨rfl, hp⟩
  rw [State.lapseChecks, ht]
  simp only [List.filter_cons, hdue, if_true, List.filter_nil]
  split
  · simp only [List.map_cons, List.map_nil, List.foldl_cons, List.foldl_nil, hfirst]
    exact State.lapseOne_notDue (pre := [j.reopen]) (post := []) (j := j'.reopen)
      ⟨rfl, by simpa [Jar.reopen] using hne⟩ rfl
  · simp only [List.map_cons, List.map_nil, List.foldl_cons, List.foldl_nil, hfirst]

end Sys2Proof.Machine

namespace Sys2Proof.Proofs
open Sys2Proof.Machine

/-- The LAPSE command's share of O14. -/
theorem lapse_command (s : State) (pre post : List Jar) (j : Jar) (hr : s.inRun = true) (hh : s.holds pre j post) :
    let lapsed (track : List Jar) : State := { s with track := track }.count ctrLapses
    let reopened : List Jar := pre ++ { j with st := .openJar, reopened := true } :: post
    (∀ (k : Station) (promise : Word) (ahead : Bool), j.st = .heldPeer k promise ahead →
      (ahead = true → promise = s.clk.n →
        ((s.peer k).st = .live → (s.peer k).lapses + 1 ≠ s.cfg.parkLimit →
          exec (.lapse j.pitch) s
            = .next ((lapsed reopened).putPeer k { s.peer k with lapses := (s.peer k).lapses + 1 }))
        ∧ ((s.peer k).st = .live → (s.peer k).lapses + 1 = s.cfg.parkLimit →
          exec (.lapse j.pitch) s
            = .next ((lapsed (holdsReopened k reopened)).putPeer k
                { s.peer k with st := .parked 0, lapses := (s.peer k).lapses + 1 }))
        ∧ ((s.peer k).st ≠ .live → exec (.lapse j.pitch) s = .next (lapsed reopened)))
      ∧ (¬ (ahead = true ∧ promise = s.clk.n) → exec (.lapse j.pitch) s = .next s))
    ∧ ((∀ k : Station, j.heldBy k = false) → exec (.lapse j.pitch) s = .next s) := by
  intro lapsed reopened
  rw [exec_lapse_run hr]
  refine ⟨fun k promise ahead hj => ⟨fun ha hp => ?_, fun hnot => ?_⟩, fun hun => ?_⟩
  · have hlapse : s.lapseOne j.pitch = (lapsed reopened).reportLapse k := State.lapseOne_due hh (ha ▸ hj) hp
    rw [hlapse]
    refine ⟨fun hl hpark => ?_, fun hl hpark => ?_, fun hl => ?_⟩
    · exact congrArg Host.Outcome.next ((State.reportLapse_live (lapsed reopened) k hl).trans (if_neg hpark))
    · exact congrArg Host.Outcome.next ((State.reportLapse_live (lapsed reopened) k hl).trans (if_pos hpark))
    · exact congrArg Host.Outcome.next (State.reportLapse_other (lapsed reopened) k hl)
  · rw [State.lapseOne_notDue hh]
    rw [← Bool.not_eq_true, Jar.dueAt_held hj]
    exact hnot
  · rw [State.lapseOne_notDue hh (Jar.notDue_unheld _ hun)]

/-- The share of O14 that VALVE_CLOSE, RETURN_END and DRAW_END have. -/
theorem stage_commands (s : State) (k : Station) :
    (s.ctl.mode = .run → s.head.chuck = .flush → s.head.valveLeft = 1 →
      exec .valveClose s = .next { s with head := { s.head with valveLeft := 0 } })
    ∧ (s.head.valveLeft ≠ 1 → exec .valveClose s = .next s)
    ∧ (s.inRun = true → s.head.chuck = .returning → s.head.returnLeft = 1 →
      exec .returnEnd s = .next { s with head := { s.head with returnLeft := 0, chuck := .ready } })
    ∧ (s.head.returnLeft ≠ 1 → exec .returnEnd s = .next s)
    ∧ (s.inRun = true → ∃ draws : List Draw,
      exec (.drawEnd (senderCode k)) s = .next { s with steam := { s.steam with draws := draws } }
        ∧ ∀ d : Draw, d ∈ draws ↔
            d ∈ s.steam.draws ∧ ¬ (d.station = k ∧ distance s.clk.n d.start = d.length.toNat))
    ∧ (s.inRun = false → exec (.drawEnd (senderCode k)) s = .next s) := by
  refine ⟨fun hm hc hv => ?_, fun hv => congrArg Host.Outcome.next (if_neg fun h => hv h.2.2), fun hr hc hl => ?_,
    fun hl => congrArg Host.Outcome.next (if_neg fun h => hl h.2.2), fun hr => ⟨_, exec_drawEnd_run hr k, fun d => ?_⟩,
    fun hr => congrArg Host.Outcome.next (if_neg (by simp [hr]))⟩
  · refine congrArg Host.Outcome.next ((if_pos ⟨hm, hc, hv⟩).trans ?_)
    rw [State.valveFall, hv]
  · refine congrArg Host.Outcome.next ((if_pos ⟨hr, hc, hl⟩).trans ?_)
    rw [State.returnStep, hl]
    rfl
  · rw [List.mem_filter, Bool.not_eq_true', ← Bool.not_eq_true, Bool.and_eq_true, decide_eq_true_iff, Draw.endsAt_iff]

/-- The share of O14 that a strobe has with one record held for a peer. -/
theorem strobe_lapses (pins : StrobePins) (s : State) (j : Jar) (k : Station) (promise : Word) (ahead : Bool)
    (h : s.strobeScene pins j) (hc : s.head.cyclePitch = none) (hk : s.head.chuck = .ready)
    (hj : j.st = .heldPeer k promise ahead) :
    let d := distance (s.clk.n + 1) j.pitch
    let lapsed (peer : Peer) : State :=
      ({ s.tick with track := [{ j with st := .openJar, reopened := true }] }.count ctrLapses).putPeer k peer
    let once : Peer := { s.peer k with lapses := (s.peer k).lapses + 1 }
    (¬ (ahead = true ∧ promise = s.clk.n + 1) → exec (.pitchStrobe pins) s = .next s.tick)
    ∧ (ahead = true → promise = s.clk.n + 1 → (s.peer k).st = .live →
      s.cfg.entryOffset ≤ d ∨ d < s.cfg.entryOffset - s.cfg.claimLead ∨ s.pins.capLow = true →
      ((s.peer k).lapses + 1 ≠ s.cfg.parkLimit → exec (.pitchStrobe pins) s = .next (lapsed once))
      ∧ ((s.peer k).lapses + 1 = s.cfg.parkLimit →
        exec (.pitchStrobe pins) s = .next (lapsed { once with st := .parked 0 })))
    ∧ (∀ b : Fin 16, ahead = true → promise = s.clk.n + 1 → (s.peer k).st = .live →
      (s.peer k).lapses + 1 ≠ s.cfg.parkLimit → j.band = some b →
      s.cfg.entryOffset - s.cfg.claimLead ≤ d → d < s.cfg.entryOffset → s.pins.capLow = false →
      exec (.pitchStrobe pins) s = .next
        (if (s.verdicts.profile.get b).target ≠ 0 ∧ s.claims.openClaims < s.cfg.commitLimit
            ∧ s.claims.busy - 1 ≤ s.cfg.entryOffset - d then
          { lapsed once with
            track := [{ j with st := .claimed, reopened := true }]
            claims := ⟨s.claims.openClaims + 1, s.claims.busy - 1⟩
            line := { s.line with queue :=
              [⟨.claim, j.pitch, byteOf (s.cfg.entryOffset + s.cfg.window + s.cfg.probeOffset + 1),
                byteOf b.val⟩] } }.count ctrClaimsMade
        else lapsed once)) := by
  intro d lapsed once
  have hs := State.sighted_strobeScene h
  obtain ⟨hm, hg, ht, hd, hq, -, -⟩ := h
  have hlapsed (ha : ahead = true) (hp : promise = s.clk.n + 1) (hl : (s.peer k).st = .live) :
      exec (.pitchStrobe pins) s
        = .next ((((s.tickLapsed j k).claimTest.stageWork pins).probe pins).exitDecision) := by
    rw [exec_pitchStrobe s pins (State.inRun_of_run s hm), State.strobe_lapsed hs ht (ha ▸ hj) hp hl hk,
      State.work_quiet (t := s.tickLapsed j k) hq hd]
  have hrest (u : State) (x : Jar) (hu : u.track = [x]) (hcu : u.head.cyclePitch = none)
      (hx : ∀ m, x.st ≠ .probeWait m) (hgu : u.cfg.gateRole = false) :
      ((u.stageWork pins).probe pins).exitDecision = u := State.rest_quiet hcu hu hx hgu
  refine ⟨fun hnot => ?_, fun ha hp hl hout => ?_, fun b ha hp hl hpark hb hlow hhigh hcap => ?_⟩
  · have hdue : j.dueAt (s.clk.n + 1) = false := by
      rw [← Bool.not_eq_true, Jar.dueAt_held hj]
      exact hnot
    rw [exec_pitchStrobe s pins (State.inRun_of_run s hm),
      State.strobe_tick hs ht hdue (State.vacateChuck_ready s.advanceN (by simp [hk]) (by simp [hk]))
        (by simp [Jar.isClaimed, hj]),
      State.work_quiet (t := s.tick) hq hd, State.claimTest_single (t := s.tick) ht (.inl (by simp [stateTest, hj])),
      hrest s.tick j ht hc (by simp [hj]) hg]
  · have hclaim : (s.tickLapsed j k).claimTest = s.tickLapsed j k := by
      rcases hout with hfar | hnear | hcap
      · exact State.claimTest_single (t := s.tickLapsed j k) (j := j.reopen) rfl (.inr (.inl hfar))
      · exact State.claimTest_single (t := s.tickLapsed j k) (j := j.reopen) rfl (.inr (.inr hnear))
      · refine if_neg ?_
        rintro ⟨-, hclear⟩
        have hcap' : (s.tickLapsed j k).pins.capLow = true := hcap
        simp [hcap'] at hclear
    rw [hlapsed ha hp hl, hclaim, hrest (s.tickLapsed j k) j.reopen rfl hc (by simp [Jar.reopen]) hg]
    refine ⟨fun hpark => ?_, fun hpark => ?_⟩
    · rw [State.tickLapsed, Peer.lapsed_once hpark]
      rfl
    · rw [State.tickLapsed, Peer.lapsed_parks hpark]
      rfl
  · have hstate : s.tickLapsed j k = lapsed once := by
      rw [State.tickLapsed, Peer.lapsed_once hpark]
      rfl
    have hclaim := State.claimTest_open (t := lapsed once) (j := j.reopen) (b := b) rfl hm hq hb rfl hlow hhigh
    rw [hlapsed ha hp hl, hstate, hclaim]
    refine congrArg Host.Outcome.next ?_
    by_cases hcl : (s.verdicts.profile.get b).target ≠ 0 ∧ s.claims.openClaims < s.cfg.commitLimit
        ∧ s.claims.busy - 1 ≤ s.cfg.entryOffset - d
    · obtain ⟨hprofile, hcommit, hspace⟩ := hcl
      rw [if_pos ⟨hcap, hprofile, .inr (.inr rfl), hcommit, hspace⟩, if_pos ⟨hprofile, hcommit, hspace⟩]
      exact hrest _ _ rfl hc (by simp) hg
    · rw [if_neg fun h => hcl ⟨h.2.1, h.2.2.2⟩, if_neg hcl]
      exact hrest (lapsed once) j.reopen rfl hc (by simp [Jar.reopen]) hg

/-- The share of O14 that a strobe has with two records held for a peer that it parks. -/
theorem strobe_parks (pins : StrobePins) (s : State) (j j' : Jar) (k : Station) (promise : Word) (ahead : Bool)
    (hm : s.ctl.mode = .run) (hg : s.cfg.gateRole = false) (ht : s.track = [j, j']) (hne : j.pitch ≠ j'.pitch)
    (hd : s.steam.draws = []) (hq : s.line.queue = []) (he : pins.eye = false) (hc : s.head.cyclePitch = none)
    (hk : s.head.chuck = .ready)
    (hfar : ∀ x ∈ [j, j'], s.cfg.entryOffset ≤ distance (s.clk.n + 1) x.pitch
      ∧ distance (s.clk.n + 1) x.pitch < s.cfg.retireDistance)
    (hj : j.st = .heldPeer k (s.clk.n + 1) true) (hj' : j'.st = .heldPeer k promise ahead)
    (hl : (s.peer k).st = .live) (hpark : (s.peer k).lapses + 1 = s.cfg.parkLimit) :
    exec (.pitchStrobe pins) s
      = .next (({ s.tick with
          track := [{ j with st := .openJar, reopened := true }, { j' with st := .openJar, reopened := true }]
          }.count ctrLapses).putPeer k
            { s.peer k with st := .parked 0, lapses := (s.peer k).lapses + 1 }) := by
  have hs : s.sighted pins = s.advanceN :=
    State.sighted_quiet (by simp [hg]) he fun x hx => (hfar x (ht ▸ hx)).2
  have hlapse := State.lapseChecks_parks (t := s.advanceN) ht hne hj rfl hj' hl hpark
  let u : State := ({ s.tick with track := [j.reopen, j'.reopen] }.count ctrLapses).putPeer k
    { s.peer k with st := .parked 0, lapses := (s.peer k).lapses + 1 }
  have hopen : ∀ x ∈ u.track, x.st = .openJar ∧ s.cfg.entryOffset ≤ distance (s.clk.n + 1) x.pitch := by
    refine List.forall_mem_cons.mpr ⟨⟨rfl, (hfar j (by simp)).1⟩, List.forall_mem_cons.mpr ⟨⟨rfl, ?_⟩, by simp⟩⟩
    exact (hfar j' (by simp)).1
  have hwork : u.work pins = u := by
    rw [State.work_quiet (by exact hq) (by exact hd),
      State.claimTest_none u fun x hx _ hhigh => absurd hhigh (Nat.not_lt.mpr (hopen x hx).2),
      State.stageWork_none _ _ (by exact hc), State.probe_none u _ fun x hx _ m => by simp [(hopen x hx).1],
      State.exitDecision_none _ (by exact hg)]
  rw [exec_pitchStrobe s pins (State.inRun_of_run s hm), State.strobe_parts hs, hlapse,
    State.vacateChuck_ready _ (by simp [hk]) (by simp [hk]),
    State.engageOrFall_none _ _ fun _ => State.jarToEngage_none _ (by simp [Jar.reopen, Jar.isClaimed])]
  exact congrArg Host.Outcome.next hwork

/-- Settles O14, occurrence by occurrence. -/
theorem strobeOccurrences : Obligations.StrobeOccurrences := by
  refine ⟨fun s pre post j hr hh => lapse_command s pre post j hr hh, fun s jar h => ?_, stage_commands, strobe_lapses,
    fun pins s j j' k promise ahead hm hg ht hne hd hq he hc hk hfar hj hj' hl hpark =>
      strobe_parks pins s j j' k promise ahead hm hg ht hne hd hq he hc hk hfar hj hj' hl hpark,
    fun pins s f rest hr hg ht he hc hk hq => ?_⟩
  · by_cases hr : s.inRun = true
    · rw [exec_lapse_run hr, State.lapseOne_lacks (h.resolve_left (by simp [hr]))]
    · exact congrArg Host.Outcome.next (if_neg hr)
  · intro stale drawn
    have hstale : staleFrame s.tick.cfg s.tick.clk.n = stale := staleFrame_strobe s.cfg (s.clk.n + 1)
    have hdraws (u : State) (hu : u.steam = s.steam) (hn : u.clk.n = s.clk.n + 1) :
        u.endDraws = { u with steam := drawn.steam } := by
      have hfilter : u.steam.draws.filter (fun d => !d.endsAt u.clk.n) = drawn.steam.draws := by
        rw [hu, hn]
        refine List.filter_congr fun d _ => ?_
        rw [Draw.endsAt, ← decide_not]
        rfl
      rw [State.endDraws, hfilter, hu]
    rw [exec_pitchStrobe s pins hr, State.strobe_stale hg ht he hk hc, hdraws s.tick.dropStale rfl rfl]
    refine ⟨fun hs => ?_, fun bytes doomed hs => ?_⟩
    · rw [State.dropStale_idle (t := s.tick) hq hs, hstale]
      rfl
    · rw [State.dropStale_onLine (t := s.tick) hq hs rfl, hstale]
      rfl

end Sys2Proof.Proofs
end
